-- ==== Sys2Proof/Word.lean ====
section
/-! DEFINITION. The word types of the block: a byte, a command word, the 16-bit checksum register, and the
widths of the counters and of the file size. Each width is one the spec states: the byte (00_scope.md R11), the
command word (30_encoding.md R70), the checksum (41_checksum_engine.md R101), the registers (10_state.md R20). -/

namespace Sys2Proof

/-- 00_scope.md R11: a byte is 8 bits, unsigned. -/
abbrev Byte := BitVec 8

/-- 30_encoding.md R70: a command is a 10-bit word `cmd[9:0]`. -/
abbrev CmdWord := BitVec 10

/-- 41_checksum_engine.md R101: the checksum register is 16 bits wide. -/
abbrev Crc := BitVec 16

/-- 10_state.md R20: `CNT` and `PSIZE` are 11 bits wide. -/
abbrev Count := BitVec 11

/-- 10_state.md R20: `FSIZE` is `SIZE_WIDTH` = 32 bits wide. -/
abbrev FileSize := BitVec 32

end Sys2Proof
end

