-- ==== Sys2Proof/Config.lean ====
section
/-! DEFINITION. What an implementation fixes and the free values: the parameters of 00_scope.md R8, the byte
values of 30_encoding.md R74 (each literal named once, 93_implementation_defined.md I10), the two OPEN parameters
as a structure that the state carries (notes/assumptions/8.md), and the sink's free answers
(notes/assumptions/7.md). -/

namespace Sys2Proof

namespace Config

/-- 00_scope.md R8 `P_SHORT`: payload length of a packet led by 0x01. -/
def pShort : Nat := 128

/-- 00_scope.md R8 `P_LONG`: payload length of a packet led by 0x02. -/
def pLong : Nat := 1024

/-- 00_scope.md R8 `HDR_LEN`: leading byte, sequence, complement. -/
def hdrLen : Nat := 3

/-- 00_scope.md R8 `TRL_LEN`: CRC high, CRC low. -/
def trlLen : Nat := 2

/-- 00_scope.md R8 `OVERHEAD`. -/
def overhead : Nat := hdrLen + trlLen

/-- 00_scope.md R8 `PBUF_CAP`: 1029 bytes. -/
def pbufCap : Nat := pLong + overhead

/-- 00_scope.md R8 `DEC_MAX_DIGITS`. -/
def decMaxDigits : Nat := 10

/-- 30_encoding.md R74: start of a 128-byte packet. -/
def soh : Byte := 0x01#8

/-- 30_encoding.md R74: start of a 1024-byte packet. -/
def stx : Byte := 0x02#8

/-- 30_encoding.md R74: end of transmission. -/
def eot : Byte := 0x04#8

/-- 30_encoding.md R74: acknowledge. -/
def ack : Byte := 0x06#8

/-- 30_encoding.md R74: negative acknowledge. -/
def nak : Byte := 0x15#8

/-- 30_encoding.md R74: cancel. -/
def can : Byte := 0x18#8

/-- 30_encoding.md R74: CRC-mode request, 'C'. -/
def crcReq : Byte := 0x43#8

/-- 30_encoding.md R74: user abort, 'A'. -/
def upperA : Byte := 0x41#8

/-- 30_encoding.md R74: user abort, 'a'. -/
def lowerA : Byte := 0x61#8

/-- 20_memory.md R54: the size text's terminator, a space. -/
def space : Byte := 0x20#8

/-- 20_memory.md R54: the name's terminator, and the batch-end marker of 45_dispatcher_metadata.md R162. -/
def nul : Byte := 0x00#8

/-- 41_checksum_engine.md R101: the generator polynomial, its x^16 term implied. -/
def poly : Crc := 0x1021#16

/-- The sink's answer to a NAME or DATA notification that the environment has not fixed beforehand
(`State.sinkAnswers`): 60_exceptions.md R237, "a free input of the step (a draw under no law)". A free value, no
body: nothing can be proved of which answer it is. Its argument is the draw counter of State, so that two draws
need not agree. DESIGN CHOICE (the form), notes/assumptions/7.md. -/
opaque sinkAnswer : Nat → Bool

/-- A capacity of at least two: the constraint 00_scope.md R8 puts on both OPEN parameters. -/
abbrev Capacity := { n : Nat // 2 ≤ n }

/-- 00_scope.md R8, the parameters marked OPEN: fixed when the block is built (70_reset_and_hazards.md R252),
never changed by a command (10_state.md R34). -/
structure Params where
  /-- `FILE_NAME_MAX`: capacity of the file-name buffer, the terminator included. -/
  fileNameMax : Capacity
  /-- `OUT_CAP`: capacity of the outbound buffer. -/
  outCap : Capacity
  deriving DecidableEq, Repr

end Config

end Sys2Proof
end

