-- ==== Sys2Proof/Syntax.lean ====
section
/-! DEFINITION. The instructions: one constructor per row of spec/opcode_table.json, and the phase of the block that
selects among the RECV rows (30_encoding.md R73, R90). -/

namespace Sys2Proof

/-- The thirteen rows of the opcode table. A row whose data byte is fixed has no operand; a row that takes any
byte, or any byte of a class, carries it. -/
inductive Instr where
  /-- `INIT`, 47_entry_points.md R200. -/
  | init
  /-- `RESET`, 47_entry_points.md R208. -/
  | reset
  /-- `ABORT`, 47_entry_points.md R210. -/
  | abort
  /-- `RECV.STICKY`, 47_entry_points.md R205: any byte. -/
  | recvSticky (b : Byte)
  /-- `RECV.SOH`, 43_byte_framer.md R121. -/
  | recvSoh
  /-- `RECV.STX`, 43_byte_framer.md R122. -/
  | recvStx
  /-- `RECV.EOT`, 43_byte_framer.md R123. -/
  | recvEot
  /-- `RECV.CAN`, 43_byte_framer.md R124. -/
  | recvCan
  /-- `RECV.UABORT_A`, 43_byte_framer.md R125, byte 0x41. -/
  | recvUabortUpper
  /-- `RECV.UABORT_a`, 43_byte_framer.md R125, byte 0x61. -/
  | recvUabortLower
  /-- `RECV.HDR_OTHER`, 43_byte_framer.md R126: any byte no other header row takes. -/
  | recvHdrOther (b : Byte)
  /-- `RECV.BODY`, 43_byte_framer.md R127: any byte. -/
  | recvBody (b : Byte)
  /-- `RECV.BODY_LAST`, 43_byte_framer.md R128: any byte. -/
  | recvBodyLast (b : Byte)
  deriving DecidableEq, Repr

/-- The part of the state that decoding a RECV looks at (30_encoding.md R73, R90; 43_byte_framer.md R120). -/
inductive Phase where
  /-- `INIT_DONE = 0`. -/
  | uninitialized
  /-- `INIT_DONE = 1`, `TERM != NOMINAL`. -/
  | sticky
  /-- `INIT_DONE = 1`, `TERM = NOMINAL`, `AWAIT = 1`: AwaitingHeader. -/
  | header
  /-- `INIT_DONE = 1`, `TERM = NOMINAL`, `AWAIT = 0`, `CNT < PSIZE + 4`: AccumulatingBody. -/
  | body
  /-- `INIT_DONE = 1`, `TERM = NOMINAL`, `AWAIT = 0`, otherwise: the byte that completes the packet. -/
  | bodyLast
  deriving DecidableEq, Repr

end Sys2Proof
end

