-- ==== Sys2Proof/WellFormed.lean ====
section
/-! DEFINITION. What a well-formed instruction is: the one operand check the opcode table makes, that the byte of
RECV.HDR_OTHER is none of the six named header bytes (30_encoding.md R75, R90). -/

namespace Sys2Proof

/-- 30_encoding.md R75: the six values that AwaitingHeader matches exactly. -/
def isNamedHeaderByte (b : Byte) : Bool :=
  b == Config.soh || b == Config.stx || b == Config.eot || b == Config.can || b == Config.upperA || b == Config.lowerA

/-- Well-formedness of an instruction, as a Bool. -/
def Instr.wf : Instr → Bool
  | .init => true
  | .reset => true
  | .abort => true
  | .recvSticky _ => true
  | .recvSoh => true
  | .recvStx => true
  | .recvEot => true
  | .recvCan => true
  | .recvUabortUpper => true
  | .recvUabortLower => true
  | .recvHdrOther b => !isNamedHeaderByte b
  | .recvBody _ => true
  | .recvBodyLast _ => true

end Sys2Proof
end

