-- ==== Sys2Proof/Decode.lean ====
section
/-! DEFINITION. The decoder, from a command word and the phase of the block to an instruction or a rejection by
name, and the encoder (30_encoding.md R70 to R77, R90). The phase is an argument because the spec decodes a RECV
with the block's state (R73); notes/assumptions/3.md says what the host's `decodeTableWord` takes it to be. -/

namespace Sys2Proof

/-- 30_encoding.md R70, R71: the `op` field of a row. -/
def Instr.op : Instr → BitVec 2
  | .recvSticky _ => 0b00#2
  | .recvSoh => 0b00#2
  | .recvStx => 0b00#2
  | .recvEot => 0b00#2
  | .recvCan => 0b00#2
  | .recvUabortUpper => 0b00#2
  | .recvUabortLower => 0b00#2
  | .recvHdrOther _ => 0b00#2
  | .recvBody _ => 0b00#2
  | .recvBodyLast _ => 0b00#2
  | .init => 0b01#2
  | .reset => 0b10#2
  | .abort => 0b11#2

/-- 30_encoding.md R70, R72, R75: the `data` field of a row. -/
def Instr.data : Instr → Byte
  | .init => 0x00#8
  | .reset => 0x00#8
  | .abort => 0x00#8
  | .recvSticky b => b
  | .recvSoh => Config.soh
  | .recvStx => Config.stx
  | .recvEot => Config.eot
  | .recvCan => Config.can
  | .recvUabortUpper => Config.upperA
  | .recvUabortLower => Config.lowerA
  | .recvHdrOther b => b
  | .recvBody b => b
  | .recvBodyLast b => b

/-- 30_encoding.md R90: the state conditions under which a row is the one decoded. INIT, RESET and ABORT are exact
matches in every state (what the last two do while `INIT_DONE = 0` is a fault of their own rules). -/
def Instr.selectedIn : Instr → Phase → Bool
  | .init, _ => true
  | .reset, _ => true
  | .abort, _ => true
  | .recvSticky _, ph => ph == .sticky
  | .recvSoh, ph => ph == .header
  | .recvStx, ph => ph == .header
  | .recvEot, ph => ph == .header
  | .recvCan, ph => ph == .header
  | .recvUabortUpper, ph => ph == .header
  | .recvUabortLower, ph => ph == .header
  | .recvHdrOther _, ph => ph == .header
  | .recvBody _, ph => ph == .body
  | .recvBodyLast _, ph => ph == .bodyLast

/-- Why a word is no instruction. -/
inductive DecodeError where
  /-- The number has a bit above bit 9: it is no command word (30_encoding.md R70; notes/assumptions/4.md). -/
  | notTenBits
  /-- INIT, RESET or ABORT with a nonzero data field (30_encoding.md R72). -/
  | reservedData
  /-- RECV while `INIT_DONE = 0` (30_encoding.md R73, first test). -/
  | notInitialized
  deriving DecidableEq, Repr

/-- 30_encoding.md R70: bits 9:8. -/
def opField (w : CmdWord) : BitVec 2 := w.extractLsb' 8 2

/-- 30_encoding.md R70: bits 7:0. -/
def dataField (w : CmdWord) : Byte := w.extractLsb' 0 8

/-- 30_encoding.md R75: the class of a byte in AwaitingHeader. -/
def decodeHeader (b : Byte) : Instr :=
  if b = Config.soh then .recvSoh
  else if b = Config.stx then .recvStx
  else if b = Config.eot then .recvEot
  else if b = Config.can then .recvCan
  else if b = Config.upperA then .recvUabortUpper
  else if b = Config.lowerA then .recvUabortLower
  else .recvHdrOther b

/-- 30_encoding.md R73: decoding a RECV, its tests in the spec's order (the phase holds their answers). -/
def decodeRecv (ph : Phase) (b : Byte) : Except DecodeError Instr :=
  match ph with
  | .uninitialized => .error .notInitialized
  | .sticky => .ok (.recvSticky b)
  | .header => .ok (decodeHeader b)
  | .body => .ok (.recvBody b)
  | .bodyLast => .ok (.recvBodyLast b)

/-- 30_encoding.md R71, R72, R90: decoding a command word. -/
def decode (ph : Phase) (w : CmdWord) : Except DecodeError Instr :=
  if opField w = 0b00#2 then decodeRecv ph (dataField w)
  else if dataField w ≠ 0x00#8 then .error .reservedData
  else if opField w = 0b01#2 then .ok .init
  else if opField w = 0b10#2 then .ok .reset
  else .ok .abort

/-- The command word in a number, if it is one: a number with a bit above bit 9 is none (notes/assumptions/4.md). -/
def commandOfNat (n : Nat) : Option CmdWord :=
  if n < 2 ^ 10 then some (BitVec.ofNat 10 n) else none

/-- Decoding, total on any bits. -/
def decodeBits (ph : Phase) (n : Nat) : Except DecodeError Instr :=
  match commandOfNat n with
  | none => .error .notTenBits
  | some w => decode ph w

/-- 30_encoding.md R70, R71: the word of an instruction, `op` above `data`. -/
def encode (i : Instr) : CmdWord := i.op ++ i.data

/-- What the decoder reads from a table word, in the phase the block has after reset (AwaitingHeader;
70_reset_and_hazards.md R251; notes/assumptions/3.md). -/
def decodeTableWord (_nbits w : Nat) : Option Instr :=
  match decodeBits .header w with
  | .ok i => some i
  | .error _ => none

end Sys2Proof
end

