-- ==== Sys2Proof/Machine/Checksum.lean ====
section
/-! DEFINITION. The Checksum Engine, CRC-16/XMODEM (41_checksum_engine.md): the augmented bit-serial form R100, which
the block uses, and the direct form R102. -/

namespace Sys2Proof.Machine

/-- 41_checksum_engine.md R100: `reg <- ((reg << 1) | bit) mod 2^16`. -/
def shiftIn (reg : Crc) (bit : Bool) : Crc := (reg <<< 1) ||| (BitVec.ofBool bit).setWidth 16

/-- 41_checksum_engine.md R100: bits shifted through the register, `top` being its bit 15 before each shift. -/
def crcBits : Crc → List Bool → Crc
  | reg, [] => reg
  | reg, bit :: rest =>
    if reg.msb then crcBits (shiftIn reg bit ^^^ Config.poly) rest else crcBits (shiftIn reg bit) rest

/-- 41_checksum_engine.md R100: the bits of a byte, "for i from 7 down to 0". -/
def msbFirst (b : Byte) : List Bool :=
  [b.getLsbD 7, b.getLsbD 6, b.getLsbD 5, b.getLsbD 4, b.getLsbD 3, b.getLsbD 2, b.getLsbD 1, b.getLsbD 0]

/-- The bits of a byte sequence, in the order they enter the register. -/
def bitsOf (m : List Byte) : List Bool := m.flatMap msbFirst

/-- 41_checksum_engine.md R100: the bytes of m, then sixteen zero bits, from register 0. -/
def crc16 (m : List Byte) : Crc := crcBits 0x0000#16 (bitsOf (m ++ [0x00#8, 0x00#8]))

/-- 41_checksum_engine.md R102: n shifts of the direct form. -/
def crcDirectShifts : Nat → Crc → Crc
  | 0, reg => reg
  | n + 1, reg => if reg.msb then crcDirectShifts n ((reg <<< 1) ^^^ Config.poly) else crcDirectShifts n (reg <<< 1)

/-- 41_checksum_engine.md R102: the direct form, from a register. -/
def crcDirectFrom : Crc → List Byte → Crc
  | reg, [] => reg
  | reg, b :: m => crcDirectFrom (crcDirectShifts 8 (reg ^^^ (b.setWidth 16 <<< 8))) m

/-- 41_checksum_engine.md R102: the non-augmented form. -/
def crc16Direct (m : List Byte) : Crc := crcDirectFrom 0x0000#16 m

/-- 30_encoding.md R79: a checksum as the packet's two trailer bytes, high byte first. -/
def crcTrailer (c : Crc) : List Byte := [c.extractLsb' 8 8, c.extractLsb' 0 8]

end Sys2Proof.Machine
end

