-- ==== Sys2Proof/Machine/Decimal.lean ====
section
/-! DEFINITION. The Decimal Parser (42_decimal_parser.md R110 to R115). -/

namespace Sys2Proof.Machine

/-- 42_decimal_parser.md R112: the digits are 0x30 to 0x39. -/
def isDigit (c : Byte) : Bool := 0x30 ≤ c.toNat && c.toNat ≤ 0x39

/-- 42_decimal_parser.md R110: the digit value `c - 0x30`. -/
def digitValue (c : Byte) : Nat := c.toNat - 0x30

/-- 42_decimal_parser.md R110, R114: the loop over the digits, modulo `2 ^ SIZE_WIDTH` at each step; none is Reject. -/
def decDigits (v : FileSize) : List Byte → Option FileSize
  | [] => some v
  | c :: t => if isDigit c then decDigits (v * 10#32 + BitVec.ofNat 32 (digitValue c)) t else none

/-- 42_decimal_parser.md R110: DEC_PARSE; none is Reject. -/
def decParse (t : List Byte) : Option FileSize :=
  if t.length > Config.decMaxDigits then none else decDigits 0#32 t

/-- The value of a string of digits as a natural number, first digit most significant (42_decimal_parser.md R110). -/
def decimalValue (t : List Byte) : Nat := t.foldl (fun v c => v * 10 + digitValue c) 0

end Sys2Proof.Machine
end

