-- ==== Sys2Proof/Machine/State.lean ====
section
/-! DEFINITION. The state of the block as plain data: the Session registers and buffers of 10_state.md R20, the fault
mark of 60_exceptions.md R226, the configuration of 10_state.md R34, and the ports (the model's own fields:
a step is a function of the state alone, so what the environment puts in and what the block puts out stand here). -/

namespace Sys2Proof.Machine

/-- The model faults of 60_exceptions.md R226 to R229, for commands the spec gives no meaning. Each is TAKEN
(`takeFault`): the command that raises it answers a next state with the mark set, and every later step of that state
stops with the recorded fault. Safe: the machine stops where a real block might go on. -/
inductive Fault where
  /-- R227: raised by RECV, RESET or ABORT while `INIT_DONE = 0`. Safe. -/
  | notInitialized
  /-- R228: raised by a command issued while another command of the block is in progress. Safe. -/
  | reentrant
  /-- R229: raised by a command word with op INIT, RESET or ABORT and nonzero data, and by a buffer index outside
  its capacity (20_memory.md R50). Safe. -/
  | reservedCommand
  deriving DecidableEq, Repr

/-- Reasons to give an instruction no meaning. -/
inductive Refusal where
  /-- Raised by an arm of `exec` whose instruction has no meaning yet; no arm does. Safe. -/
  | notModelled (mnemonic : String)
  /-- Raised by a RECV row executed in a state in which the decoder does not select it (30_encoding.md R90 makes the
  state conditions part of each row). No step raises it: a step decodes in the phase it executes in
  (notes/assumptions/3.md). Safe. -/
  | rowNotSelected
  deriving DecidableEq, Repr

/-- 10_state.md R23: the sticky terminal status, its five legal values. -/
inductive Term where
  /-- 0, set by RESET and the first INIT. -/
  | nominal
  /-- 1, set by outcome SUCCESS. -/
  | complete
  /-- 2, set by outcomes ABORT and ABORTED and by command ABORT. -/
  | aborted
  /-- 3, set by outcome WRITE_ERR. -/
  | writeError
  /-- 4, set by outcome SIZE_ERR. -/
  | sizeError
  deriving DecidableEq, Repr

/-- 30_encoding.md R83: the status codes, which are also the outcomes of 46_response_generator.md R180. -/
inductive Status where
  /-- 0. -/
  | ok
  /-- 1, "receive error". -/
  | rxError
  /-- 2, "receive ok". -/
  | rxOk
  /-- 3, "start receive". -/
  | startRx
  /-- 4, "receive complete (EOT)". -/
  | rxComplete
  /-- 5, "success / session close". -/
  | success
  /-- 6, "write error". -/
  | writeErr
  /-- 7, "size error". -/
  | sizeErr
  /-- 8, "abort requested". -/
  | abort
  /-- 9, "aborted". -/
  | aborted
  deriving DecidableEq, Repr

/-- 30_encoding.md R87: the four kinds of sink notification, with their fields. -/
inductive SinkEvent where
  /-- Kind 0: the file name without its terminator, and the file size. -/
  | name (bytes : List Byte) (size : FileSize)
  /-- Kind 1: a length and that many bytes. -/
  | data (len : Nat) (bytes : List Byte)
  /-- Kind 2. -/
  | sessionEnd
  /-- Kind 3. -/
  | aborted
  deriving DecidableEq, Repr

/-- What a command does at a port, one constructor per port (60_exceptions.md R235 to R237). -/
inductive PortEvent where
  /-- A notification on the sink port. -/
  | notify (e : SinkEvent)
  /-- A write on the transport port. -/
  | transmit (bytes : List Byte)
  /-- A code on the status output. -/
  | status (c : Status)
  deriving DecidableEq, Repr

/-- A command the host issues: its word, and whether the host issues it while the command before it is still in
progress (60_exceptions.md R228; notes/assumptions/6.md). -/
structure Request where
  word : CmdWord
  overlaps : Bool
  deriving DecidableEq, Repr

/-- The bytes of one buffer, by index, in canonical form: indexes strictly rising, no entry equal to what an
unlisted index reads as (`Memory.wf`). -/
abbrev Memory := List Host.Cell

/-- The state of the block. -/
@[ext]
structure State where
  /-- `INIT_DONE`, 10_state.md R22. -/
  initDone : Bool
  /-- `TERM`, 10_state.md R23. -/
  term : Term
  /-- `AWAIT`, 10_state.md R25. -/
  await : Bool
  /-- `EOT_SEEN`, 10_state.md R26. -/
  eotSeen : Bool
  /-- `EXP_SEQ`, 10_state.md R27. -/
  expSeq : Byte
  /-- `PREV`, 10_state.md R28. -/
  prev : Byte
  /-- `CNT`, 10_state.md R29. -/
  cnt : Count
  /-- `PSIZE`, 10_state.md R30. -/
  psize : Count
  /-- `FSIZE`, 10_state.md R31. -/
  fsize : FileSize
  /-- `PBUF`, 20_memory.md R52. -/
  pbuf : Memory
  /-- `FNAME`, 20_memory.md R55. -/
  fname : Memory
  /-- `FSIZE_TXT`, 20_memory.md R56. -/
  fsizeTxt : Memory
  /-- `OBUF`, 20_memory.md R57. -/
  obuf : Memory
  /-- `OLEN`, 20_memory.md R57. -/
  olen : Nat
  /-- The fault mark, 60_exceptions.md R226, R231. -/
  faultMark : Option Fault
  /-- The OPEN parameters, 00_scope.md R8, 10_state.md R34: configuration, changed by no command. -/
  params : Config.Params
  /-- The model's own: the commands the host has yet to issue, oldest first (notes/assumptions/2.md). -/
  commands : List Request
  /-- The model's own: the answers fixed for the coming NAME and DATA notifications (notes/assumptions/7.md). -/
  sinkAnswers : List Bool
  /-- The model's own: how many free sink answers have been drawn (notes/assumptions/7.md). -/
  draws : Nat
  /-- The model's own: what the last command did at its ports, in order (notes/assumptions/9.md). -/
  outs : List PortEvent
  deriving DecidableEq, Repr

/-- The machine right after reset: the column "after RESET / first INIT" of 10_state.md R35 (notes/assumptions/1.md).
What R35 does not give is named in the log: OBUF (11), the fault mark (5), the parameters (8), the ports (2, 7, 9). -/
def State.reset : State where
  initDone := true
  term := .nominal
  await := true
  eotSeen := false
  expSeq := 0x00#8
  prev := 0x00#8
  cnt := 0#11
  psize := 0#11
  fsize := 0#32
  pbuf := []
  fname := []
  fsizeTxt := []
  obuf := []
  olen := 0
  faultMark := none
  params := { fileNameMax := ⟨16, by decide⟩, outCap := ⟨2, by decide⟩ }
  commands := []
  sinkAnswers := []
  draws := 0
  outs := []

end Sys2Proof.Machine
end

