-- ==== Sys2Proof/Machine/Flags.lean ====
section
/-! DEFINITION. The tables and tests the spec gives as values: the numeric codes (10_state.md R23, 30_encoding.md R83,
R87), the Response Generator's table (46_response_generator.md R180), the sticky return codes (30_encoding.md R84)
and the packet tests of 44_packet_validator.md. -/

namespace Sys2Proof.Machine

/-- 10_state.md R23: the encoding of `TERM`. -/
def Term.code : Term → BitVec 3
  | .nominal => 0#3
  | .complete => 1#3
  | .aborted => 2#3
  | .writeError => 3#3
  | .sizeError => 4#3

/-- 30_encoding.md R83: the status codes. -/
def Status.code : Status → BitVec 4
  | .ok => 0#4
  | .rxError => 1#4
  | .rxOk => 2#4
  | .startRx => 3#4
  | .rxComplete => 4#4
  | .success => 5#4
  | .writeErr => 6#4
  | .sizeErr => 7#4
  | .abort => 8#4
  | .aborted => 9#4

/-- 30_encoding.md R87: the kind codes of sink events. -/
def SinkEvent.kind : SinkEvent → BitVec 2
  | .name _ _ => 0#2
  | .data _ _ => 1#2
  | .sessionEnd => 2#2
  | .aborted => 3#2

/-- 46_response_generator.md R180: the reply of an outcome (the six sequences of 30_encoding.md R82). -/
def replyOf : Status → List Byte
  | .ok => []
  | .rxError => [Config.nak]
  | .rxOk => [Config.ack]
  | .startRx => [Config.ack, Config.crcReq]
  | .rxComplete => [Config.ack, Config.crcReq]
  | .success => [Config.ack]
  | .writeErr => [Config.can, Config.can]
  | .sizeErr => [Config.can, Config.can]
  | .abort => [Config.can, Config.can]
  | .aborted => [Config.crcReq]

/-- 46_response_generator.md R180: the terminal status an outcome sets, if any. -/
def stickyOf : Status → Option Term
  | .ok => none
  | .rxError => none
  | .rxOk => none
  | .startRx => none
  | .rxComplete => none
  | .success => some .complete
  | .writeErr => some .writeError
  | .sizeErr => some .sizeError
  | .abort => some .aborted
  | .aborted => some .aborted

/-- 30_encoding.md R84: STICKY_CODE. The spec gives it for the four non-nominal values; NOMINAL, for which no RECV
asks it, is sent to the nominal status of reset (never reached: RECV.STICKY is selected only when
`TERM != NOMINAL`). -/
def stickyCode : Term → Status
  | .nominal => .ok
  | .complete => .success
  | .aborted => .aborted
  | .writeError => .writeErr
  | .sizeError => .sizeErr

/-- 44_packet_validator.md R141: the complement check, `cseq == seq ^ 0xFF`. -/
def complementOk (seq cseq : Byte) : Bool := cseq == seq ^^^ 0xFF#8

/-- 44_packet_validator.md R143: the sequence check, an exact 8-bit comparison. -/
def sequenceOk (seq expSeq : Byte) : Bool := seq == expSeq

/-- 44_packet_validator.md R144: the checksum check. -/
def checksumOk (computed received : Crc) : Bool := computed == received

end Sys2Proof.Machine
end

