-- ==== Sys2Proof/Machine/Operands.lean ====
section
/-! DEFINITION. Reading and writing a buffer, the fields of a completed packet (30_encoding.md R79, R80; 20_memory.md
R52, R53), and the scans of a first packet's payload (45_dispatcher_metadata.md R163 to R165). -/

namespace Sys2Proof.Machine

/-- What an index that is not listed reads as: 0x00, the contents of a cleared buffer (10_state.md R35;
43_byte_framer.md R129; notes/assumptions/10.md). -/
def unlisted : Byte := 0x00#8

/-- 20_memory.md R50: `MemRead(BUF, i, 1)`. -/
def Memory.read : Memory → Nat → Byte
  | [], _ => unlisted
  | (a, v) :: m, i => if a = i then v else Memory.read m i

/-- A cell, unless its byte is what an unlisted index reads as. -/
def cellOf (i : Nat) (v : Byte) : Memory := if v = unlisted then [] else [(i, v)]

/-- 20_memory.md R50: `MemWrite(BUF, i, 1, v)`, keeping the canonical form. -/
def Memory.write : Memory → Nat → Byte → Memory
  | [], i, v => cellOf i v
  | (a, u) :: m, i, v =>
    if i < a then cellOf i v ++ (a, u) :: m
    else if i = a then cellOf i v ++ m
    else (a, u) :: Memory.write m i v

/-- The n bytes from index i on. -/
def Memory.slice (m : Memory) (i : Nat) : Nat → List Byte
  | 0 => []
  | n + 1 => Memory.read m i :: Memory.slice m (i + 1) n

/-- Bytes written one after another from index i on. -/
def Memory.writeAll (m : Memory) (i : Nat) : List Byte → Memory
  | [] => m
  | b :: bs => Memory.writeAll (Memory.write m i b) (i + 1) bs

/-- 45_dispatcher_metadata.md R166: the loops that fill a buffer of n bytes, `x[i] if i < len(x) else 0x00`. -/
def fillBytes (n : Nat) (x : List Byte) : List Byte := (List.range n).map fun i => x.getD i 0x00#8

/-- The canonical form from index `lo` on, below `cap`. -/
def Memory.wfFrom (cap : Nat) : Nat → Memory → Bool
  | _, [] => true
  | lo, (a, v) :: m => decide (lo ≤ a) && decide (a < cap) && v != unlisted && Memory.wfFrom cap (a + 1) m

/-- The canonical form of a buffer of `cap` bytes: indexes strictly rising and below the capacity, no entry equal to
what an unlisted index reads as. -/
def Memory.wf (cap : Nat) (m : Memory) : Bool := Memory.wfFrom cap 0 m

/-- 30_encoding.md R79: byte `seq`. -/
def seqByte (pbuf : Memory) : Byte := pbuf.read 1

/-- 30_encoding.md R79: byte `cseq`. -/
def cseqByte (pbuf : Memory) : Byte := pbuf.read 2

/-- 20_memory.md R53: the payload `PBUF[3 .. 3+P)`. -/
def payloadOf (pbuf : Memory) (p : Nat) : List Byte := pbuf.slice 3 p

/-- 30_encoding.md R80: `rx_crc = zext_16(PBUF[P+3]) << 8 | zext_16(PBUF[P+4])`. -/
def rxCrc (pbuf : Memory) (p : Nat) : Crc :=
  ((pbuf.read (p + 3)).setWidth 16 <<< 8) ||| (pbuf.read (p + 4)).setWidth 16

/-- 45_dispatcher_metadata.md R163: the length of the file name, the least index below `min(P, FILE_NAME_MAX)` that
holds 0x00; none is malformed. -/
def scanName (fileNameMax : Nat) (p : List Byte) : Option Nat :=
  (p.take fileNameMax).findIdx? (· == Config.nul)

/-- 45_dispatcher_metadata.md R164: the size text, from index s up to the next 0x20; none is malformed. -/
def scanSizeText (s : Nat) (p : List Byte) : Option (List Byte) :=
  ((p.drop s).findIdx? (· == Config.space)).map fun k => (p.drop s).take k

/-- What a well-formed first packet says. -/
structure Metadata where
  name : List Byte
  sizeText : List Byte
  size : FileSize
  deriving DecidableEq, Repr

/-- 45_dispatcher_metadata.md R163 to R165, R169: the metadata of a payload, none if it is malformed. -/
def parseMetadata (fileNameMax : Nat) (p : List Byte) : Option Metadata :=
  match scanName fileNameMax p with
  | none => none
  | some n =>
    match scanSizeText (n + 1) p with
    | none => none
    | some text =>
      match decParse text with
      | none => none
      | some size => some { name := p.take n, sizeText := text, size := size }

end Sys2Proof.Machine
end

