-- ==== Sys2Proof/Machine/Ops.lean ====
section
/-! DEFINITION. The operations the meanings share: the phase of the block, taking a model fault (60_exceptions.md
R226), the ports (00_scope.md R12), `CLEAR` and `CLEAR_PACKET`, the packet's completion (44_packet_validator.md,
45_dispatcher_metadata.md), the Response Generator and `END_COMMAND`, and fetching the next command. -/

namespace Sys2Proof.Machine

/-- What a meaning answers. -/
abbrev Result := Host.Outcome State Fault Refusal

/-- 30_encoding.md R73, 43_byte_framer.md R120: the phase, its tests in the spec's order. `PSIZE + 4` is exact
(00_scope.md R11). A count above `PSIZE + 4`, which no run reaches, falls under the framer's "else"
(notes/assumptions/13.md). -/
def State.phase (s : State) : Phase :=
  if s.initDone = false then .uninitialized
  else if s.term ≠ .nominal then .sticky
  else if s.await then .header
  else if s.cnt.toNat < s.psize.toNat + 4 then .body
  else .bodyLast

/-! ### Taking a model fault, entering and leaving a terminal status -/

/-- TAKING AN EXCEPTION, 60_exceptions.md R226: a faulting command changes no state, emits nothing, notifies nothing
and leaves the status output without a value; the fault is recorded in the mark. There is no way back: R231. -/
def takeFault (f : Fault) (s : State) : State := { s with faultMark := some f, outs := [] }

/-- 60_exceptions.md R226, R231: every later state of a marked block is faulted, whatever the command
(notes/assumptions/5.md). -/
def unlessFaulted (s : State) (k : Result) : Result :=
  match s.faultMark with
  | some f => .fault f
  | none => k

/-- 60_exceptions.md R227: RECV, RESET and ABORT while `INIT_DONE = 0`. -/
def whenInitialized (s : State) (k : Result) : Result :=
  if s.initDone then k else .next (takeFault .notInitialized s)

/-- A RECV row: the fault of 47_entry_points.md R204, then the row's own effect if the decoder selects the row in this
state (30_encoding.md R90), a refusal if it does not (no step gets there). -/
def recvRow (i : Instr) (s : State) (k : Result) : Result :=
  unlessFaulted s (whenInitialized s (if i.wf && i.selectedIn s.phase then k else .refused .rowNotSelected))

/-! ### Ports -/

/-- A command begins: nothing has happened at its ports yet (notes/assumptions/9.md). -/
def beginCommand (s : State) : State := { s with outs := [] }

/-- 47_entry_points.md R204, R210: `OLEN <- 0` at the start of RECV and ABORT (R215). -/
def emptyReply (s : State) : State := { s with olen := 0 }

/-- 00_scope.md R12: `emit(bs)` appends the bytes to the outbound buffer. -/
def emit (bs : List Byte) (s : State) : State :=
  { s with obuf := s.obuf.writeAll s.olen bs, olen := s.olen + bs.length }

/-- 00_scope.md R12: `notify(ev)`, without reading an answer. -/
def notify (e : SinkEvent) (s : State) : State := { s with outs := s.outs ++ [.notify e] }

/-- 60_exceptions.md R237: the sink's answer to the next NAME or DATA notification: the one the environment fixed, else
a free value (notes/assumptions/7.md). -/
def sinkAnswer (s : State) : Bool :=
  match s.sinkAnswers with
  | a :: _ => a
  | [] => Config.sinkAnswer s.draws

/-- The answer has been read: the next notification reads another one. -/
def dropAnswer (s : State) : State :=
  { s with
    sinkAnswers := s.sinkAnswers.tail
    draws := if s.sinkAnswers.isEmpty then s.draws + 1 else s.draws }

/-- 47_entry_points.md R203: `END_COMMAND()`, one transport write of a reply that is not empty. -/
def endCommand (s : State) : State :=
  { s with
    outs := if 0 < s.olen then s.outs ++ [.transmit (s.obuf.slice 0 s.olen)] else s.outs
    olen := 0 }

/-- 00_scope.md R13: the command ends with a status on the status output. -/
def returnStatus (c : Status) (s : State) : State := { s with outs := s.outs ++ [.status c] }

/-! ### Clearing -/

/-- 47_entry_points.md R201: `CLEAR()`. `INIT_DONE`, the bindings and the bytes of OBUF stay (notes/assumptions/11.md). -/
def clear (s : State) : State :=
  { s with
    term := .nominal
    await := true
    eotSeen := false
    expSeq := 0x00#8
    prev := 0x00#8
    cnt := 0#11
    psize := 0#11
    fsize := 0#32
    pbuf := []
    fname := []
    fsizeTxt := []
    olen := 0 }

/-- 43_byte_framer.md R129: `CLEAR_PACKET()`; `PSIZE` stays. -/
def clearPacket (s : State) : State := { s with pbuf := [], cnt := 0#11, await := true }

/-! ### The Byte Framer's actions -/

/-- 43_byte_framer.md R121, R122: a leading byte b that starts a packet of payload length p. -/
def startPacket (b : Byte) (p : Nat) (s : State) : State :=
  { s with pbuf := s.pbuf.write 0 b, psize := BitVec.ofNat 11 p, cnt := 1#11, await := false }

/-- 43_byte_framer.md R127: `MemWrite(PBUF, CNT, 1, b)`. -/
def storeByte (b : Byte) (s : State) : State := { s with pbuf := s.pbuf.write s.cnt.toNat b }

/-- 43_byte_framer.md R127: `CNT <- CNT + 1`. -/
def advance (s : State) : State := { s with cnt := s.cnt + 1#11 }

/-- 20_memory.md R50, 60_exceptions.md R229: an index outside PBUF is a model fault; `CNT` is the only index a rule
takes from the state (notes/assumptions/12.md). -/
def withinPacketBuffer (s : State) (k : Result) : Result :=
  if s.cnt.toNat < Config.pbufCap then k else .next (takeFault .reservedCommand s)

/-! ### The Packet Dispatcher and the Metadata Parser -/

/-- 45_dispatcher_metadata.md R166: FNAME, FSIZE_TXT and FSIZE of well-formed metadata. -/
def storeMetadata (d : Metadata) (s : State) : State :=
  { s with
    fname := s.fname.writeAll 0 (fillBytes s.params.fileNameMax.1 d.name)
    fsizeTxt := s.fsizeTxt.writeAll 0 (fillBytes (Config.decMaxDigits + 1) d.sizeText)
    fsize := d.size }

/-- `EXP_SEQ <- v`, for 45_dispatcher_metadata.md R168 and R172. -/
def setExpSeq (v : Byte) (s : State) : State := { s with expSeq := v }

/-- 45_dispatcher_metadata.md R167, R168: NAME, its answer, and what follows. -/
def announce (d : Metadata) (s : State) : Status × State :=
  if sinkAnswer s then (.startRx, setExpSeq 0x01#8 (dropAnswer (notify (.name d.name d.size) s)))
  else (.sizeErr, dropAnswer (notify (.name d.name d.size) s))

/-- 45_dispatcher_metadata.md R162 to R169: `META(p)`. -/
def metaPacket (p : List Byte) (s : State) : Status × State :=
  if p.headD 0x00#8 = Config.nul then (.abort, s)
  else
    match parseMetadata s.params.fileNameMax.1 p with
    | none => (.sizeErr, s)
    | some d => announce d (storeMetadata d s)

/-- 45_dispatcher_metadata.md R170 to R173: `DATA_DELIVER(p)`. -/
def dataDeliver (p : List Byte) (s : State) : Status × State :=
  if sinkAnswer s then (.rxOk, setExpSeq (s.expSeq + 0x01#8) (dropAnswer (notify (.data s.psize.toNat p) s)))
  else (.writeErr, dropAnswer (notify (.data s.psize.toNat p) s))

/-- 45_dispatcher_metadata.md R160: `DISPATCH()`. -/
def dispatch (s : State) : Status × State :=
  if seqByte s.pbuf = 0x00#8 then metaPacket (payloadOf s.pbuf s.psize.toNat) s
  else dataDeliver (payloadOf s.pbuf s.psize.toNat) s

/-- 44_packet_validator.md R140: `COMPLETE_PACKET()`, its checks in the spec's order (R145). -/
def completePacket (s : State) : Status × State :=
  if complementOk (seqByte s.pbuf) (cseqByte s.pbuf) = false then (.rxError, s)
  else if s.eotSeen then (.success, notify .sessionEnd s)
  else if sequenceOk (seqByte s.pbuf) s.expSeq = false then (.rxError, s)
  else if checksumOk (crc16 (payloadOf s.pbuf s.psize.toNat)) (rxCrc s.pbuf s.psize.toNat) = false then (.rxError, s)
  else dispatch s

/-! ### The Response Generator -/

/-- 43_byte_framer.md R130: `PREV <- b`. -/
def setPrev (b : Byte) (s : State) : State := { s with prev := b }

/-- `EOT_SEEN <- 1`, 43_byte_framer.md R123. -/
def markEot (s : State) : State := { s with eotSeen := true }

/-- `TERM <- t`, for 46_response_generator.md R181. -/
def setTerm (t : Term) (s : State) : State := { s with term := t }

/-- 46_response_generator.md R180: `RESPOND(o)`, its reply and its sticky status. -/
def respond (o : Status) (s : State) : State := setTerm ((stickyOf o).getD s.term) (emit (replyOf o) s)

/-- The start of a processed RECV: 47_entry_points.md R204 up to the framer. -/
def beginRecv (s : State) : State := emptyReply (beginCommand s)

/-- The end of a processed RECV of byte b with outcome o: 43_byte_framer.md R130, then 47_entry_points.md R204 from
`RESPOND` on. -/
def finishRecv (b : Byte) (o : Status) (s : State) : State :=
  returnStatus o (endCommand (respond o (setPrev b s)))

/-! ### Fetching the next command -/

/-- The fault a word that does not decode raises: 60_exceptions.md R227, R229. -/
def faultOf : DecodeError → Fault
  | .notTenBits => .reservedCommand
  | .reservedData => .reservedCommand
  | .notInitialized => .notInitialized

/-- The instruction a request asks for in this state, or the fault it raises. An overlapping command is reentrant
whatever its word (60_exceptions.md R228; notes/assumptions/6.md). -/
def fetch (r : Request) (s : State) : Except Fault Instr :=
  if r.overlaps then .error .reentrant
  else
    match decode s.phase r.word with
    | .ok i => .ok i
    | .error e => .error (faultOf e)

/-- The state with the command taken from the command port. -/
def takeCommand (s : State) : State := { s with commands := s.commands.tail }

/-- The host issues a command next, none being in progress. -/
def issue (w : CmdWord) (s : State) : State := { s with commands := { word := w, overlaps := false } :: s.commands }

end Sys2Proof.Machine
end

