-- ==== Sys2Proof/Machine/Entry.lean ====
section
/-! DEFINITION. The three commands that carry no byte: INIT, RESET, ABORT (47_entry_points.md R200 to R202, R208 to
R211). -/

namespace Sys2Proof.Machine

/-- `INIT`, 47_entry_points.md R200: CLEAR and `INIT_DONE <- 1` the first time, nothing afterwards (R202). -/
def execInit (s : State) : Result :=
  unlessFaulted s (.next (returnStatus .ok
    (if s.initDone then beginCommand s else { clear (beginCommand s) with initDone := true })))

/-- `RESET`, 47_entry_points.md R208. -/
def execReset (s : State) : Result :=
  unlessFaulted s (whenInitialized s (.next (returnStatus .ok (clear (beginCommand s)))))

/-- `ABORT`, 47_entry_points.md R210: acts whatever `TERM` holds (R211). -/
def execAbort (s : State) : Result :=
  unlessFaulted s (whenInitialized s (.next (returnStatus .aborted
    (endCommand (setTerm .aborted (emit [Config.can, Config.can] (emptyReply (beginCommand s))))))))

end Sys2Proof.Machine
end

