-- ==== Sys2Proof/Machine/RecvBody.lean ====
section
/-! DEFINITION. RECV in AccumulatingBody (43_byte_framer.md R127 to R129). -/

namespace Sys2Proof.Machine

/-- `RECV.BODY`, 43_byte_framer.md R127. -/
def execRecvBody (b : Byte) (s : State) : Result :=
  recvRow (.recvBody b) s (withinPacketBuffer s (.next
    (finishRecv b .ok (advance (storeByte b (beginRecv s))))))

/-- `RECV.BODY_LAST`, 43_byte_framer.md R128: the byte is stored, the packet is checked and dispatched, and the packet
buffer is cleared whatever the outcome. -/
def execRecvBodyLast (b : Byte) (s : State) : Result :=
  recvRow (.recvBodyLast b) s (withinPacketBuffer s (.next
    (finishRecv b (completePacket (storeByte b (beginRecv s))).1
      (clearPacket (completePacket (storeByte b (beginRecv s))).2))))

end Sys2Proof.Machine
end

