-- ==== Sys2Proof/Machine/RecvHeader.lean ====
section
/-! DEFINITION. RECV in AwaitingHeader (43_byte_framer.md R121 to R126). -/

namespace Sys2Proof.Machine

/-- `RECV.SOH`, 43_byte_framer.md R121. -/
def execRecvSoh (s : State) : Result :=
  recvRow .recvSoh s (.next (finishRecv Config.soh .ok (startPacket Config.soh Config.pShort (beginRecv s))))

/-- `RECV.STX`, 43_byte_framer.md R122. -/
def execRecvStx (s : State) : Result :=
  recvRow .recvStx s (.next (finishRecv Config.stx .ok (startPacket Config.stx Config.pLong (beginRecv s))))

/-- `RECV.EOT`, 43_byte_framer.md R123. -/
def execRecvEot (s : State) : Result :=
  recvRow .recvEot s (.next (finishRecv Config.eot .rxComplete (markEot (beginRecv s))))

/-- `RECV.CAN`, 43_byte_framer.md R124: the second of two cancel bytes in a row aborts. -/
def execRecvCan (s : State) : Result :=
  recvRow .recvCan s (.next
    (if s.prev = Config.can then finishRecv Config.can .aborted (notify .aborted (beginRecv s))
     else finishRecv Config.can .ok (beginRecv s)))

/-- `RECV.UABORT_A`, 43_byte_framer.md R125. -/
def execRecvUabortUpper (s : State) : Result :=
  recvRow .recvUabortUpper s (.next (finishRecv Config.upperA .abort (beginRecv s)))

/-- `RECV.UABORT_a`, 43_byte_framer.md R125. -/
def execRecvUabortLower (s : State) : Result :=
  recvRow .recvUabortLower s (.next (finishRecv Config.lowerA .abort (beginRecv s)))

/-- `RECV.HDR_OTHER`, 43_byte_framer.md R126. -/
def execRecvHdrOther (b : Byte) (s : State) : Result :=
  recvRow (.recvHdrOther b) s (.next (finishRecv b .rxError (beginRecv s)))

end Sys2Proof.Machine
end

