-- ==== Sys2Proof/Machine/RecvSticky.lean ====
section
/-! DEFINITION. RECV while a terminal status is set (47_entry_points.md R204, R205). -/

namespace Sys2Proof.Machine

/-- `RECV.STICKY`, 47_entry_points.md R204, R205: `OLEN <- 0`, then the sticky code; the byte is lost. -/
def execRecvSticky (b : Byte) (s : State) : Result :=
  recvRow (.recvSticky b) s (.next (returnStatus (stickyCode s.term) (beginRecv s)))

end Sys2Proof.Machine
end

