-- ==== Sys2Proof/Machine/Dispatch.lean ====
section
/-! DEFINITION. One arm per constructor of Instr: each calls its meaning. -/

namespace Sys2Proof.Machine

def exec (i : Instr) (s : State) : Host.Outcome State Fault Refusal :=
  match i with
  | .init => Sys2Proof.Machine.execInit s
  | .reset => Sys2Proof.Machine.execReset s
  | .abort => Sys2Proof.Machine.execAbort s
  | .recvSticky b => Sys2Proof.Machine.execRecvSticky b s
  | .recvSoh => Sys2Proof.Machine.execRecvSoh s
  | .recvStx => Sys2Proof.Machine.execRecvStx s
  | .recvEot => Sys2Proof.Machine.execRecvEot s
  | .recvCan => Sys2Proof.Machine.execRecvCan s
  | .recvUabortUpper => Sys2Proof.Machine.execRecvUabortUpper s
  | .recvUabortLower => Sys2Proof.Machine.execRecvUabortLower s
  | .recvHdrOther b => Sys2Proof.Machine.execRecvHdrOther b s
  | .recvBody b => Sys2Proof.Machine.execRecvBody b s
  | .recvBodyLast b => Sys2Proof.Machine.execRecvBodyLast b s

end Sys2Proof.Machine
end

