-- ==== Sys2Proof/Machine/Step.lean ====
section
/-! DEFINITION. One step: one complete command of the host (20_memory.md R60), taken from the command port and executed. -/

namespace Sys2Proof.Machine

/-- One step. A marked block is faulted for good (60_exceptions.md R226, R231); with no command at the port the block
holds its state (60_exceptions.md R241; notes/assumptions/2.md); otherwise the next command is decoded in the present
phase and executed, or its fault is taken. -/
def step (s : State) : Host.Outcome State Fault Refusal :=
  match s.faultMark with
  | some f => .fault f
  | none =>
    match s.commands with
    | [] => .next s
    | r :: _ =>
      match fetch r s with
      | .error f => .next (takeFault f (takeCommand s))
      | .ok i => exec i (takeCommand s)

/-- The state in which the host's next command is the word w. A number with a bit above bit 9 is no command word, and
the 10-bit port cannot carry it (notes/assumptions/4.md). -/
def State.withFetchWord (s : State) (_nbits w : Nat) : State :=
  match commandOfNat w with
  | some c => issue c s
  | none => s

end Sys2Proof.Machine
end

