-- ==== Sys2Proof/Machine/Assembler.lean ====
section
/-! DEFINITION. The spec's assembler syntax as functions: the command words of 30_encoding.md R88 and the
pseudo-instructions BYTES, PKT and PKTRAW of R89. -/

namespace Sys2Proof.Machine

/-- 30_encoding.md R88: `RECV imm8` is `0x000 | imm8`. -/
def recvWord (b : Byte) : CmdWord := b.setWidth 10

/-- 30_encoding.md R88: `INIT`. -/
def initWord : CmdWord := 0x100#10

/-- 30_encoding.md R88: `RESET`. -/
def resetWord : CmdWord := 0x200#10

/-- 30_encoding.md R88: `ABORT`. -/
def abortWord : CmdWord := 0x300#10

/-- A command issued when none is in progress. -/
def request (w : CmdWord) : Request := { word := w, overlaps := false }

/-- 30_encoding.md R89: `BYTES b0, b1, ..., bk`. -/
def bytesCommands (bs : List Byte) : List Request := bs.map fun b => request (recvWord b)

/-- 30_encoding.md R89: the bytes of `PKTRAW lead, seq, cseq, payload, crc16`. -/
def pktRaw (lead seq cseq : Byte) (payload : List Byte) (crc : Crc) : List Byte :=
  [lead, seq, cseq] ++ payload ++ crcTrailer crc

/-- 30_encoding.md R89: the leading byte for a payload of this length, 0x01 for 128 and 0x02 for 1024. -/
def leadFor (len : Nat) : Byte := if len = Config.pShort then Config.soh else Config.stx

/-- 30_encoding.md R89: the bytes of `PKT seq, payload`. -/
def pkt (seq : Byte) (payload : List Byte) : List Byte :=
  pktRaw (leadFor payload.length) seq (seq ^^^ 0xFF#8) payload (crc16 payload)

end Sys2Proof.Machine
end

