-- ==== Sys2Proof/Safety.lean ====
section
/-! DEFINITION. The terms claims use: the invariant of 10_state.md R33, power-on, runs of steps, and what a host that
keeps its duties (60_exceptions.md R238) puts at the command port. -/

namespace Sys2Proof.Machine

/-- The payload lengths `PSIZE` may hold while a packet is assembled (10_state.md R33, clause 2). -/
def legalLength (p : Count) : Bool := p == 128#11 || p == 1024#11

/-- 10_state.md R33 clauses 1, 2 and 4, and R30's legal values of `PSIZE`: the framer's part of the invariant. Clause 3
is the type `Term`; clause 5 is about a run. -/
structure State.FramerInv (s : State) : Prop where
  awaiting : s.await = true → s.cnt = 0#11
  assembling : s.await = false →
    legalLength s.psize = true ∧ 1 ≤ s.cnt.toNat ∧ s.cnt.toNat ≤ s.psize.toNat + 4
  drained : s.olen = 0
  legalSize : s.psize = 0#11 ∨ legalLength s.psize = true

/-- The four buffers are in canonical form, within their capacities (20_memory.md R50). -/
structure State.BuffersInv (s : State) : Prop where
  pbuf : Memory.wf Config.pbufCap s.pbuf = true
  fname : Memory.wf s.params.fileNameMax.1 s.fname = true
  fsizeTxt : Memory.wf (Config.decMaxDigits + 1) s.fsizeTxt = true
  obuf : Memory.wf s.params.outCap.1 s.obuf = true

/-- The invariant. The fields of a block that is not initialized are unspecified (10_state.md R35), so the framer's part
holds once `INIT_DONE = 1`; the canonical form of the buffers is the model's own and holds always. -/
structure State.Inv (s : State) : Prop where
  buffers : s.BuffersInv
  framer : s.initDone = true → s.FramerInv

/-- The block at power-on, before any INIT (10_state.md R35, 70_reset_and_hazards.md R250): `INIT_DONE = 0`, no fault
recorded, every other field unspecified. -/
def State.AtPowerOn (s : State) : Prop := s.initDone = false ∧ s.faultMark = none

/-- The registers and buffers of the column "after RESET / first INIT" of 10_state.md R35. -/
structure State.Fresh (s : State) : Prop where
  initDone : s.initDone = true
  term : s.term = .nominal
  await : s.await = true
  eotSeen : s.eotSeen = false
  expSeq : s.expSeq = 0x00#8
  prev : s.prev = 0x00#8
  cnt : s.cnt = 0#11
  psize : s.psize = 0#11
  fsize : s.fsize = 0#32
  pbuf : ∀ i, s.pbuf.read i = 0x00#8
  fname : ∀ i, s.fname.read i = 0x00#8
  fsizeTxt : ∀ i, s.fsizeTxt.read i = 0x00#8
  olen : s.olen = 0

/-- A block that takes header bytes: initialized, nominal, AwaitingHeader, no fault recorded (the conditions of the
opcode table's `AWAIT=1` rows). -/
structure State.AwaitingHeader (s : State) : Prop where
  noFault : s.faultMark = none
  initDone : s.initDone = true
  nominal : s.term = .nominal
  awaiting : s.await = true

/-- A block that takes packet bytes: initialized, nominal, AccumulatingBody, no fault recorded (the conditions of the
opcode table's `AWAIT=0` rows, but for the count). -/
structure State.Accumulating (s : State) : Prop where
  noFault : s.faultMark = none
  initDone : s.initDone = true
  nominal : s.term = .nominal
  accumulating : s.await = false

/-- A block frozen in a terminal status, no fault recorded (the conditions of the row RECV.STICKY). -/
structure State.Terminated (s : State) : Prop where
  noFault : s.faultMark = none
  initDone : s.initDone = true
  sticky : s.term ≠ .nominal

/-- The next byte completes a packet (row RECV.BODY_LAST, `CNT = PSIZE + 4`) of a block that meets the invariant. -/
structure State.OneByteLeft (s : State) : Prop where
  accumulating : s.Accumulating
  inv : s.Inv
  last : s.cnt.toNat = s.psize.toNat + 4

/-- The byte b completes a packet with this payload that passes the complement, sequence and checksum checks, no
end of transmission having been seen (44_packet_validator.md R140). The checksum is big-endian: the byte at offset
`P+3`, then b (20_memory.md R58). -/
structure State.CompletesValid (s : State) (b : Byte) (payload : List Byte) : Prop where
  ready : s.OneByteLeft
  payloadIs : payload = s.pbuf.slice 3 s.psize.toNat
  complement : s.pbuf.read 2 = s.pbuf.read 1 ^^^ 0xFF#8
  noEot : s.eotSeen = false
  sequence : s.pbuf.read 1 = s.expSeq
  checksum : crc16 payload = s.pbuf.read (s.psize.toNat + 3) ++ b

/-- n steps, stopping at the first fault or refusal. -/
def runSteps : Nat → State → Result
  | 0, s => .next s
  | n + 1, s =>
    match step s with
    | .next t => runSteps n t
    | .fault f => .fault f
    | .refused r => .refused r

/-- The sink events among what a command did at its ports. -/
def sinkEvents (outs : List PortEvent) : List SinkEvent :=
  outs.filterMap fun o => match o with
    | .notify e => some e
    | .transmit _ => none
    | .status _ => none

/-- The transport writes among what a command did at its ports. -/
def transportWrites (outs : List PortEvent) : List (List Byte) :=
  outs.filterMap fun o => match o with
    | .notify _ => none
    | .transmit bs => some bs
    | .status _ => none

/-- The codes a command put on the status output. -/
def statusCodes (outs : List PortEvent) : List Status :=
  outs.filterMap fun o => match o with
    | .notify _ => none
    | .transmit _ => none
    | .status c => some c

/-- A command a host that keeps its duties issues to an initialized block: not overlapping (60_exceptions.md R228),
and not a reserved encoding (30_encoding.md R72). -/
def Request.proper (r : Request) : Bool :=
  !r.overlaps && (opField r.word == 0b00#2 || dataField r.word == 0x00#8)

end Sys2Proof.Machine
end

