-- ==== Sys2Proof/Certificates/Slice0/Obligations.lean ====
section
/-! DEFINITION. The statements for the provers. Each docstring says which rules of spec/ a statement formalises, and
where it rests on a choice of the model's own, which entry of notes/assumptions it is. -/

open Sys2Proof Sys2Proof.Machine

/-! ### Encoding -/

/-- 30_encoding.md R70 to R73, R90: decoding the word of a well-formed instruction, in a phase that selects its row,
gives the instruction back, for every row and every operand. -/
def Obligations.DecodeOfEncodeGivesInstr : Prop :=
  ∀ (i : Instr) (ph : Phase), i.wf = true → i.selectedIn ph = true → decode ph (encode i) = .ok i

/-- 30_encoding.md R72, R73, R90: a word that decodes is the word of exactly the instruction it decodes to, which is
well-formed and of a row the phase selects: no two rows share a word within a phase. -/
def Obligations.EncodeOfDecodeGivesWord : Prop :=
  ∀ (ph : Phase) (w : CmdWord) (i : Instr), decode ph w = .ok i →
    encode i = w ∧ i.wf = true ∧ i.selectedIn ph = true

/-- Words written out bit by bit from 30_encoding.md R70, R71, R75 decode to their instructions. -/
def Obligations.WrittenOutWordsDecode : Prop :=
  decode .header 0b0100000000#10 = .ok .init ∧
  decode .header 0b1000000000#10 = .ok .reset ∧
  decode .header 0b1100000000#10 = .ok .abort ∧
  decode .header 0b0000000001#10 = .ok .recvSoh ∧
  decode .header 0b0000011000#10 = .ok .recvCan ∧
  decode .header 0b0001000011#10 = .ok (.recvHdrOther 0x43#8) ∧
  decode .sticky 0b0000000001#10 = .ok (.recvSticky 0x01#8) ∧
  decode .body 0b0000000001#10 = .ok (.recvBody 0x01#8) ∧
  decode .bodyLast 0b0000000001#10 = .ok (.recvBodyLast 0x01#8)

/-- 30_encoding.md R88: the command words of the assembler syntax, in every phase. -/
def Obligations.AssemblerWordsDecode : Prop :=
  ∀ (ph : Phase) (b : Byte),
    decode ph 0x100#10 = .ok .init ∧ decode ph 0x200#10 = .ok .reset ∧ decode ph 0x300#10 = .ok .abort ∧
    recvWord b = 0x000#10 ||| b.setWidth 10 ∧ decode ph (recvWord b) = decodeRecv ph b

/-! ### The step and the model faults -/

/-- A step runs the decoded instruction: with no fault recorded and a command at the port that does not overlap another
and decodes in the present phase, the step is `exec` of that instruction, the command taken from the port. -/
def Obligations.StepRunsDecodedInstruction : Prop :=
  ∀ (s : State) (r : Request) (rest : List Request) (i : Instr),
    s.faultMark = none → s.commands = r :: rest → r.overlaps = false → decode s.phase r.word = .ok i →
    step s = exec i { s with commands := rest }

/-- The host's `withFetchWord` puts the word where the next step takes it, and changes nothing else. -/
def Obligations.FetchWordIsTheNextCommand : Prop :=
  ∀ (s : State) (nbits w : Nat) (i : Instr), w < 1024 → s.faultMark = none → decodeBits s.phase w = .ok i →
    step (s.withFetchWord nbits w) = exec i s

/-- 60_exceptions.md R241: with no command at the port the block holds its state (notes/assumptions/2.md). -/
def Obligations.IdleBlockHoldsItsState : Prop :=
  ∀ s : State, s.faultMark = none → s.commands = [] → step s = .next s

/-- 60_exceptions.md R231: once the fault mark is set no command, RESET included, is executed: every step and every
instruction stops with the recorded fault. -/
def Obligations.FaultMarkIsForGood : Prop :=
  ∀ (s : State) (f : Fault), s.faultMark = some f → step s = .fault f ∧ ∀ i : Instr, exec i s = .fault f

/-- 60_exceptions.md R227 (with R226): RECV, RESET or ABORT while `INIT_DONE = 0` records the fault and changes nothing
else; no status, reply or notification comes out. -/
def Obligations.CommandBeforeInitFaults : Prop :=
  ∀ s : State, s.AtPowerOn →
    (∀ i : Instr, i ≠ .init →
      exec i s = .next { s with faultMark := some .notInitialized, outs := [] }) ∧
    (∀ (w : CmdWord) (rest : List Request), s.commands = request w :: rest →
      (opField w = 0b00#2 ∨ w = resetWord ∨ w = abortWord) →
      step s = .next { s with commands := rest, faultMark := some .notInitialized, outs := [] })

/-- 60_exceptions.md R228 (with R226): a command issued while another is in progress, whatever its word. The form in
which the model is told so is notes/assumptions/6.md. -/
def Obligations.OverlappingCommandFaults : Prop :=
  ∀ (s : State) (r : Request) (rest : List Request),
    s.faultMark = none → s.commands = r :: rest → r.overlaps = true →
    step s = .next { s with commands := rest, faultMark := some .reentrant, outs := [] }

/-- 30_encoding.md R72: INIT, RESET or ABORT with a nonzero data field raises `ReservedCommand` in every phase and
changes nothing. -/
def Obligations.ReservedWordFaults : Prop :=
  ∀ (s : State) (w : CmdWord) (rest : List Request),
    s.faultMark = none → s.commands = request w :: rest → opField w ≠ 0b00#2 → dataField w ≠ 0x00#8 →
    step s = .next { s with commands := rest, faultMark := some .reservedCommand, outs := [] }

/-- 20_memory.md R50, 60_exceptions.md R229: a packet byte whose index is outside `PBUF` (which no state meeting the
invariant has) is the same model fault; nothing is stored. -/
def Obligations.IndexOutsidePacketBufferFaults : Prop :=
  ∀ (s : State) (b : Byte), s.Accumulating → 1029 ≤ s.cnt.toNat →
    (s.cnt.toNat < s.psize.toNat + 4 →
      exec (.recvBody b) s = .next { s with faultMark := some .reservedCommand, outs := [] }) ∧
    (s.psize.toNat + 4 ≤ s.cnt.toNat →
      exec (.recvBodyLast b) s = .next { s with faultMark := some .reservedCommand, outs := [] })

/-- No step refuses: a RECV row is executed only in a state that selects it (30_encoding.md R90). -/
def Obligations.NoStepRefuses : Prop :=
  ∀ (s : State) (r : Refusal), step s ≠ .refused r

/-! ### The entry points -/

/-- 47_entry_points.md R200, R201; 10_state.md R35: the first INIT, from any power-on contents. That the bytes of OBUF
stay is the model's choice (notes/assumptions/11.md). -/
def Obligations.FirstInitClears : Prop :=
  ∀ s : State, s.AtPowerOn →
    exec .init s = .next { s with
      initDone := true, term := .nominal, await := true, eotSeen := false, expSeq := 0x00#8, prev := 0x00#8
      cnt := 0#11, psize := 0#11, fsize := 0#32, pbuf := [], fname := [], fsizeTxt := [], olen := 0
      outs := [.status .ok] }

/-- 47_entry_points.md R202: a later INIT changes no state and returns OK. -/
def Obligations.LaterInitChangesNothing : Prop :=
  ∀ s : State, s.faultMark = none → s.initDone = true → exec .init s = .next { s with outs := [.status .ok] }

/-- 47_entry_points.md R208, R209: RESET, in any initialized state: a session in progress, a partial packet, a terminal
status and a lone cancel byte are forgotten, nothing is sent and the sink is told nothing. That the bytes of OBUF stay is
the model's choice (notes/assumptions/11.md). -/
def Obligations.ResetClears : Prop :=
  ∀ s : State, s.faultMark = none → s.initDone = true →
    exec .reset s = .next { s with
      term := .nominal, await := true, eotSeen := false, expSeq := 0x00#8, prev := 0x00#8
      cnt := 0#11, psize := 0#11, fsize := 0#32, pbuf := [], fname := [], fsizeTxt := [], olen := 0
      outs := [.status .ok] }

/-- 47_entry_points.md R201, with the values of 10_state.md R35: what the first INIT and RESET leave, read byte by byte:
every register and buffer byte at its cleared value, and the configuration untouched. -/
def Obligations.ClearedBlockIsFresh : Prop :=
  ∀ (s t : State) (i : Instr), (i = .init ∧ s.initDone = false) ∨ (i = .reset ∧ s.initDone = true) →
    s.faultMark = none → exec i s = .next t →
    t.Fresh ∧ t.faultMark = none ∧ t.params = s.params

/-- 47_entry_points.md R210, R211: ABORT, whatever `TERM` holds: the reply CAN CAN, `TERM <- ABORTED`, status 9; no other
state changes but the outbound buffer. -/
def Obligations.AbortForcesAborted : Prop :=
  ∀ s : State, s.faultMark = none → s.initDone = true →
    ∃ ob, exec .abort s = .next { s with
        term := .aborted, obuf := ob, olen := 0
        outs := [.transmit [0x18#8, 0x18#8], .status .aborted] } ∧
      (∀ j, 2 ≤ j → ob.read j = s.obuf.read j) ∧ ob.read 0 = 0x18#8 ∧ ob.read 1 = 0x18#8

/-! ### RECV in a terminal status -/

/-- 47_entry_points.md R205, 30_encoding.md R84: a sticky RECV returns the code of the terminal status; the byte is lost
and no state changes, but that the outbound buffer is empty as after every command (R215). -/
def Obligations.StickyRecvReturnsItsCode : Prop :=
  ∀ (s : State) (b : Byte), s.Terminated →
    ∃ c, exec (.recvSticky b) s = .next { s with olen := 0, outs := [.status c] } ∧
      (s.term = .complete → c.code = 5#4) ∧ (s.term = .aborted → c.code = 9#4) ∧
      (s.term = .writeError → c.code = 6#4) ∧ (s.term = .sizeError → c.code = 7#4)

/-- 46_response_generator.md R182, 70_reset_and_hazards.md R256: however many bytes a terminated block is fed, and
whatever they are, it only repeats its status. -/
def Obligations.TerminatedBlockIgnoresEveryByte : Prop :=
  ∀ (bs : List Byte) (s : State) (rest : List Request), s.Terminated → s.commands = bytesCommands bs ++ rest →
    bs ≠ [] →
    runSteps bs.length s = .next { s with commands := rest, olen := 0, outs := [.status (stickyCode s.term)] }

/-! ### RECV in AwaitingHeader -/

/-- 43_byte_framer.md R121, R122, R130: a leading byte starts a packet of its length. -/
def Obligations.LeadingByteStartsPacket : Prop :=
  ∀ s : State, s.AwaitingHeader →
    exec .recvSoh s = .next { s with
      pbuf := s.pbuf.write 0 0x01#8, psize := 128#11, cnt := 1#11, await := false, prev := 0x01#8, olen := 0
      outs := [.status .ok] } ∧
    exec .recvStx s = .next { s with
      pbuf := s.pbuf.write 0 0x02#8, psize := 1024#11, cnt := 1#11, await := false, prev := 0x02#8, olen := 0
      outs := [.status .ok] }

/-- 43_byte_framer.md R123, R130: end of transmission, from either value of `EOT_SEEN`. -/
def Obligations.EotIsMarkedAndAcknowledged : Prop :=
  ∀ s : State, s.AwaitingHeader →
    ∃ ob, exec .recvEot s = .next { s with
        eotSeen := true, prev := 0x04#8, obuf := ob, olen := 0
        outs := [.transmit [0x06#8, 0x43#8], .status .rxComplete] } ∧
      (∀ j, 2 ≤ j → ob.read j = s.obuf.read j)

/-- 43_byte_framer.md R124, 46_response_generator.md R184, R185: a cancel byte aborts, tells the sink and is answered
with 'C' exactly when the byte before it was a cancel byte too; otherwise only `PREV` changes. -/
def Obligations.CancelNeedsConfirmation : Prop :=
  ∀ s : State, s.AwaitingHeader →
    (s.prev = 0x18#8 → ∃ ob, exec .recvCan s = .next { s with
        term := .aborted, prev := 0x18#8, obuf := ob, olen := 0
        outs := [.notify .aborted, .transmit [0x43#8], .status .aborted] } ∧
      (∀ j, 1 ≤ j → ob.read j = s.obuf.read j)) ∧
    (s.prev ≠ 0x18#8 → exec .recvCan s = .next { s with prev := 0x18#8, olen := 0, outs := [.status .ok] })

/-- 43_byte_framer.md R125, R130: a user-abort byte of either case aborts; the sink is not told. -/
def Obligations.UserAbortByteAborts : Prop :=
  ∀ s : State, s.AwaitingHeader →
    ∃ ob, (∀ j, 2 ≤ j → ob.read j = s.obuf.read j) ∧
      exec .recvUabortUpper s = .next { s with
        term := .aborted, prev := 0x41#8, obuf := ob, olen := 0
        outs := [.transmit [0x18#8, 0x18#8], .status .abort] } ∧
      exec .recvUabortLower s = .next { s with
        term := .aborted, prev := 0x61#8, obuf := ob, olen := 0
        outs := [.transmit [0x18#8, 0x18#8], .status .abort] }

/-- 43_byte_framer.md R126, R130: any other byte is answered NAK and changes nothing but `PREV`. -/
def Obligations.UnrecognizedByteIsAnsweredNak : Prop :=
  ∀ (s : State) (b : Byte), s.AwaitingHeader → b ∉ [0x01#8, 0x02#8, 0x04#8, 0x18#8, 0x41#8, 0x61#8] →
    ∃ ob, exec (.recvHdrOther b) s = .next { s with
        prev := b, obuf := ob, olen := 0, outs := [.transmit [0x15#8], .status .rxError] } ∧
      (∀ j, 1 ≤ j → ob.read j = s.obuf.read j)

/-- 10_state.md R36, column RECV/hdr: the frame of every header row. `PBUF` changes only at offset 0 and only for the
two leading bytes; `OBUF` only at the two reply bytes; the sequence counter, the metadata, the configuration and the
fault mark not at all; `PREV` is the byte. -/
def Obligations.HeaderRowsFrame : Prop :=
  ∀ (s t : State) (i : Instr), s.AwaitingHeader → i.selectedIn .header = true →
    i ≠ .init → i ≠ .reset → i ≠ .abort → exec i s = .next t →
    t.prev = i.data ∧ t.expSeq = s.expSeq ∧ t.fsize = s.fsize ∧ t.initDone = s.initDone ∧
    t.params = s.params ∧ t.faultMark = none ∧ t.commands = s.commands ∧ t.olen = 0 ∧
    t.sinkAnswers = s.sinkAnswers ∧ t.draws = s.draws ∧
    (∀ j, t.fname.read j = s.fname.read j) ∧ (∀ j, t.fsizeTxt.read j = s.fsizeTxt.read j) ∧
    (∀ j, 2 ≤ j → t.obuf.read j = s.obuf.read j) ∧
    (∀ j, (j ≠ 0 ∨ (i ≠ .recvSoh ∧ i ≠ .recvStx)) → t.pbuf.read j = s.pbuf.read j) ∧
    ((i ≠ .recvSoh ∧ i ≠ .recvStx) → t.await = true ∧ t.cnt = s.cnt ∧ t.psize = s.psize) ∧
    (i ≠ .recvEot → t.eotSeen = s.eotSeen)

/-! ### RECV in AccumulatingBody -/

/-- 43_byte_framer.md R127, R130; 30_encoding.md R76: a byte that is not the packet's last is stored at offset `CNT`,
whatever its value; nothing is sent and no other byte changes. -/
def Obligations.BodyByteIsStored : Prop :=
  ∀ (s : State) (b : Byte), s.Accumulating → s.Inv → s.cnt.toNat < s.psize.toNat + 4 →
    ∃ pb, exec (.recvBody b) s = .next { s with
        pbuf := pb, cnt := s.cnt + 1#11, prev := b, outs := [.status .ok] } ∧
      pb.read s.cnt.toNat = b ∧ (∀ j, j ≠ s.cnt.toNat → pb.read j = s.pbuf.read j)

/-- 43_byte_framer.md R128 to R130: the last byte of a packet always brings the framer back to AwaitingHeader with the
packet discarded, whatever the outcome; `PSIZE`, `EOT_SEEN` and the configuration stay, and the metadata stay unless a
NAME notification was made. -/
def Obligations.LastByteReturnsToHeader : Prop :=
  ∀ (s : State) (b : Byte), s.Accumulating → s.psize.toNat + 4 ≤ s.cnt.toNat → s.cnt.toNat < 1029 →
    ∃ t, exec (.recvBodyLast b) s = .next t ∧
      t.await = true ∧ t.cnt = 0#11 ∧ t.psize = s.psize ∧ t.prev = b ∧ t.olen = 0 ∧
      t.eotSeen = s.eotSeen ∧ t.initDone = s.initDone ∧ t.params = s.params ∧ t.faultMark = none ∧
      t.commands = s.commands ∧
      (∀ j, t.pbuf.read j = 0x00#8) ∧ (∀ j, 2 ≤ j → t.obuf.read j = s.obuf.read j) ∧
      ((∀ n z, SinkEvent.name n z ∉ sinkEvents t.outs) →
        t.fsize = s.fsize ∧ (∀ j, t.fname.read j = s.fname.read j) ∧
        (∀ j, t.fsizeTxt.read j = s.fsizeTxt.read j))

/-- 44_packet_validator.md R141: a wrong complement byte is answered NAK, before and after EOT. -/
def Obligations.BadComplementIsAnsweredNak : Prop :=
  ∀ (s : State) (b : Byte), s.OneByteLeft → s.pbuf.read 2 ≠ s.pbuf.read 1 ^^^ 0xFF#8 →
    ∃ ob, exec (.recvBodyLast b) s = .next { s with
      pbuf := [], cnt := 0#11, await := true, prev := b, obuf := ob
      outs := [.transmit [0x15#8], .status .rxError] } ∧
      (∀ j, 1 ≤ j → ob.read j = s.obuf.read j)

/-- 44_packet_validator.md R142: after EOT a packet with a right complement completes the session, whatever its sequence
byte, payload and checksum. -/
def Obligations.ClosingPacketCompletesSession : Prop :=
  ∀ (s : State) (b : Byte), s.OneByteLeft → s.pbuf.read 2 = s.pbuf.read 1 ^^^ 0xFF#8 → s.eotSeen = true →
    ∃ ob, exec (.recvBodyLast b) s = .next { s with
      term := .complete, pbuf := [], cnt := 0#11, await := true, prev := b, obuf := ob
      outs := [.notify .sessionEnd, .transmit [0x06#8], .status .success] } ∧
      (∀ j, 1 ≤ j → ob.read j = s.obuf.read j)

/-- 44_packet_validator.md R143: a wrong sequence byte is answered NAK and changes nothing beyond the framer. -/
def Obligations.WrongSequenceIsAnsweredNak : Prop :=
  ∀ (s : State) (b : Byte), s.OneByteLeft → s.pbuf.read 2 = s.pbuf.read 1 ^^^ 0xFF#8 → s.eotSeen = false →
    s.pbuf.read 1 ≠ s.expSeq →
    ∃ ob, exec (.recvBodyLast b) s = .next { s with
      pbuf := [], cnt := 0#11, await := true, prev := b, obuf := ob
      outs := [.transmit [0x15#8], .status .rxError] } ∧
      (∀ j, 1 ≤ j → ob.read j = s.obuf.read j)

/-- 44_packet_validator.md R144, 20_memory.md R58: a checksum that differs from the big-endian trailer is answered NAK
and changes nothing beyond the framer. -/
def Obligations.WrongChecksumIsAnsweredNak : Prop :=
  ∀ (s : State) (b : Byte), s.OneByteLeft → s.pbuf.read 2 = s.pbuf.read 1 ^^^ 0xFF#8 → s.eotSeen = false →
    s.pbuf.read 1 = s.expSeq →
    crc16 (s.pbuf.slice 3 s.psize.toNat) ≠ s.pbuf.read (s.psize.toNat + 3) ++ b →
    ∃ ob, exec (.recvBodyLast b) s = .next { s with
      pbuf := [], cnt := 0#11, await := true, prev := b, obuf := ob
      outs := [.transmit [0x15#8], .status .rxError] } ∧
      (∀ j, 1 ≤ j → ob.read j = s.obuf.read j)

/-- 45_dispatcher_metadata.md R162: a first packet whose payload begins with 0x00 ends the session; no NAME. -/
def Obligations.BatchEndMarkerAborts : Prop :=
  ∀ (s : State) (b : Byte) (payload : List Byte), s.CompletesValid b payload → s.expSeq = 0x00#8 →
    payload.head? = some 0x00#8 →
    ∃ ob, exec (.recvBodyLast b) s = .next { s with
      term := .aborted, pbuf := [], cnt := 0#11, await := true, prev := b, obuf := ob
      outs := [.transmit [0x18#8, 0x18#8], .status .abort] } ∧
      (∀ j, 2 ≤ j → ob.read j = s.obuf.read j)

/-- 45_dispatcher_metadata.md R169: malformed metadata end the session with a size error; no NAME, nothing stored. -/
def Obligations.MalformedMetadataIsSizeError : Prop :=
  ∀ (s : State) (b : Byte) (payload : List Byte), s.CompletesValid b payload → s.expSeq = 0x00#8 →
    payload.head? ≠ some 0x00#8 → parseMetadata s.params.fileNameMax.1 payload = none →
    ∃ ob, exec (.recvBodyLast b) s = .next { s with
      term := .sizeError, pbuf := [], cnt := 0#11, await := true, prev := b, obuf := ob
      outs := [.transmit [0x18#8, 0x18#8], .status .sizeErr] } ∧
      (∀ j, 2 ≤ j → ob.read j = s.obuf.read j)

/-- 45_dispatcher_metadata.md R166, R168: well-formed metadata the sink accepts are stored and start the transfer. The
answer is the state's next one, whatever it is (60_exceptions.md R237, notes/assumptions/7.md). -/
def Obligations.AcceptedMetadataStartTransfer : Prop :=
  ∀ (s : State) (b : Byte) (payload : List Byte) (d : Metadata),
    s.CompletesValid b payload → s.expSeq = 0x00#8 → payload.head? ≠ some 0x00#8 →
    parseMetadata s.params.fileNameMax.1 payload = some d → sinkAnswer s = true →
    ∃ t, exec (.recvBodyLast b) s = .next t ∧
      t.outs = [.notify (.name d.name d.size), .transmit [0x06#8, 0x43#8], .status .startRx] ∧
      t.expSeq = 0x01#8 ∧ t.term = .nominal ∧ t.fsize = d.size ∧ t.sinkAnswers = s.sinkAnswers.tail ∧
      (∀ j, j < s.params.fileNameMax.1 → t.fname.read j = d.name.getD j 0x00#8) ∧
      (∀ j, j < 11 → t.fsizeTxt.read j = d.sizeText.getD j 0x00#8)

/-- 45_dispatcher_metadata.md R166, R167: a rejection ends the session with a size error; `EXP_SEQ` stays 0 and the
stored metadata stay. -/
def Obligations.RejectedMetadataIsSizeError : Prop :=
  ∀ (s : State) (b : Byte) (payload : List Byte) (d : Metadata),
    s.CompletesValid b payload → s.expSeq = 0x00#8 → payload.head? ≠ some 0x00#8 →
    parseMetadata s.params.fileNameMax.1 payload = some d → sinkAnswer s = false →
    ∃ t, exec (.recvBodyLast b) s = .next t ∧
      t.outs = [.notify (.name d.name d.size), .transmit [0x18#8, 0x18#8], .status .sizeErr] ∧
      t.expSeq = 0x00#8 ∧ t.term = .sizeError ∧ t.fsize = d.size ∧ t.sinkAnswers = s.sinkAnswers.tail ∧
      (∀ j, j < s.params.fileNameMax.1 → t.fname.read j = d.name.getD j 0x00#8)

/-- 45_dispatcher_metadata.md R170 to R173: a validated packet numbered other than 0 is delivered whole, never trimmed;
on success `EXP_SEQ` advances modulo 256, on failure the session ends with a write error. -/
def Obligations.DataPacketIsDelivered : Prop :=
  ∀ (s : State) (b : Byte) (payload : List Byte), s.CompletesValid b payload → s.expSeq ≠ 0x00#8 →
    ∃ t, exec (.recvBodyLast b) s = .next t ∧ t.fsize = s.fsize ∧ t.fname = s.fname ∧ t.fsizeTxt = s.fsizeTxt ∧
      t.sinkAnswers = s.sinkAnswers.tail ∧
      (sinkAnswer s = true →
        t.outs = [.notify (.data s.psize.toNat payload), .transmit [0x06#8], .status .rxOk] ∧
        t.expSeq.toNat = (s.expSeq.toNat + 1) % 256 ∧ t.term = .nominal) ∧
      (sinkAnswer s = false →
        t.outs = [.notify (.data s.psize.toNat payload), .transmit [0x18#8, 0x18#8], .status .writeErr] ∧
        t.expSeq = s.expSeq ∧ t.term = .writeError)

/-! ### The Metadata Parser, the Decimal Parser, the Checksum Engine -/

/-- 45_dispatcher_metadata.md R163 to R165, 20_memory.md R54: a payload is well-formed metadata exactly when it is a name
without 0x00, a 0x00 within the first `FILE_NAME_MAX` bytes, at most ten decimal digits, a space, and anything after. -/
def Obligations.MetadataAreNameNulDigitsSpace : Prop :=
  ∀ (fileNameMax : Nat) (p : List Byte) (d : Metadata), parseMetadata fileNameMax p = some d ↔
    ∃ padding, p = d.name ++ [0x00#8] ++ d.sizeText ++ [0x20#8] ++ padding ∧
      0x00#8 ∉ d.name ∧ d.name.length < fileNameMax ∧ d.sizeText.length ≤ 10 ∧
      (∀ c ∈ d.sizeText, 0x30 ≤ c.toNat ∧ c.toNat ≤ 0x39) ∧
      d.size = BitVec.ofNat 32 (decimalValue d.sizeText)

/-- 42_decimal_parser.md R110 to R115: at most ten digits are accepted, anything else is rejected, and the value is the
decimal value of the string modulo `2 ^ 32`. -/
def Obligations.DecimalParserValue : Prop :=
  ∀ t : List Byte,
    (t.length ≤ 10 ∧ (∀ c ∈ t, 0x30 ≤ c.toNat ∧ c.toNat ≤ 0x39) →
      decParse t = some (BitVec.ofNat 32 (decimalValue t))) ∧
    (¬ (t.length ≤ 10 ∧ ∀ c ∈ t, 0x30 ≤ c.toNat ∧ c.toNat ≤ 0x39) → decParse t = none)

/-- 41_checksum_engine.md R102: the augmented bit-serial form and the direct form agree on every byte sequence. -/
def Obligations.ChecksumFormsAgree : Prop :=
  ∀ m : List Byte, crc16Direct m = crc16 m

/-- 41_checksum_engine.md R104, clause 1: the residue. -/
def Obligations.ChecksumResidueIsZero : Prop :=
  ∀ m : List Byte, crc16 (m ++ crcTrailer (crc16 m)) = 0x0000#16

/-- 41_checksum_engine.md R104, clauses 2 and 4: every change of one byte changes the checksum. -/
def Obligations.ChecksumDetectsOneByte : Prop :=
  ∀ (pre post : List Byte) (x y : Byte), x ≠ y → crc16 (pre ++ [x] ++ post) ≠ crc16 (pre ++ [y] ++ post)

/-- 41_checksum_engine.md R104, clause 3: an all-zero sequence of any length has checksum 0. -/
def Obligations.ChecksumOfZerosIsZero : Prop :=
  ∀ n : Nat, crc16 (List.replicate n 0x00#8) = 0x0000#16

/-! ### Whole-machine rules -/

/-- 10_state.md R33, R30; 20_memory.md R50: every step keeps the invariant, from every state that meets it. -/
def Obligations.StepKeepsInv : Prop :=
  ∀ s t : State, s.Inv → step s = .next t → t.Inv

/-- 10_state.md R35: the state after reset meets the invariant and is the fresh state. -/
def Obligations.ResetMeetsInv : Prop := State.reset.Inv ∧ State.reset.Fresh

/-- A host that keeps its duties (60_exceptions.md R238: no overlapping command, no reserved encoding) never meets a
fault: the initialized block completes every command, for every answer of the sink. -/
def Obligations.ProperHostNeverFaults : Prop :=
  ∀ s : State, s.Inv → s.faultMark = none → s.initDone = true → (∀ r ∈ s.commands, r.proper = true) →
    ∃ t, step s = .next t ∧ t.faultMark = none ∧ t.initDone = true ∧ t.commands = s.commands.tail ∧ t.Inv

/-- 10_state.md R34, R22: no command changes the configuration or clears `INIT_DONE`, and only INIT sets it. -/
def Obligations.ConfigurationAndInitDone : Prop :=
  ∀ s t : State, step s = .next t →
    t.params = s.params ∧ (s.initDone = true → t.initDone = true) ∧
    (s.initDone = false → t.initDone = true →
      ∃ rest, s.commands = request initWord :: rest)

/-- 10_state.md R27: the only commands that change `EXP_SEQ`, and what they make of it: it advances only on a packet
that has passed the complement, sequence and checksum checks and that the sink took. -/
def Obligations.OnlyAcceptedPacketsMoveExpSeq : Prop :=
  ∀ s t : State, s.Inv → step s = .next t → t.expSeq ≠ s.expSeq →
    ∃ r rest, s.commands = r :: rest ∧
      ((t.expSeq = 0x00#8 ∧ (decode s.phase r.word = .ok .reset ∨
          (decode s.phase r.word = .ok .init ∧ s.initDone = false))) ∨
        (∃ b, decode s.phase r.word = .ok (.recvBodyLast b) ∧
          s.pbuf.read 2 = s.pbuf.read 1 ^^^ 0xFF#8 ∧ s.eotSeen = false ∧ s.pbuf.read 1 = s.expSeq ∧
          crc16 (s.pbuf.slice 3 s.psize.toNat) = s.pbuf.read (s.psize.toNat + 3) ++ b ∧
          ((t.expSeq = 0x01#8 ∧ s.expSeq = 0x00#8 ∧ PortEvent.status .startRx ∈ t.outs) ∨
            (t.expSeq = s.expSeq + 0x01#8 ∧ s.expSeq ≠ 0x00#8 ∧ PortEvent.status .rxOk ∈ t.outs))))

/-- 10_state.md R26: `EOT_SEEN` is set only by the byte 0x04 in AwaitingHeader and cleared only by RESET and the first
INIT. -/
def Obligations.OnlyEotByteSetsEotSeen : Prop :=
  ∀ s t : State, step s = .next t → t.eotSeen ≠ s.eotSeen →
    ∃ r rest, s.commands = r :: rest ∧
      ((t.eotSeen = true ∧ s.phase = .header ∧ r.word = recvWord 0x04#8) ∨
        (t.eotSeen = false ∧ (r.word = resetWord ∨ (r.word = initWord ∧ s.initDone = false))))

/-- 46_response_generator.md R181, 10_state.md R23: what may write `TERM`. -/
def Obligations.OnlyTheseWriteTerm : Prop :=
  ∀ s t : State, step s = .next t → t.term ≠ s.term →
    ∃ r rest, s.commands = r :: rest ∧
      ((t.term = .aborted ∧ r.word = abortWord) ∨
        (t.term = .nominal ∧ (r.word = resetWord ∨ (r.word = initWord ∧ s.initDone = false))) ∨
        (s.term = .nominal ∧ opField r.word = 0b00#2 ∧
          ((t.term = .complete ∧ PortEvent.status .success ∈ t.outs) ∨
            (t.term = .writeError ∧ PortEvent.status .writeErr ∈ t.outs) ∨
            (t.term = .sizeError ∧ PortEvent.status .sizeErr ∈ t.outs) ∨
            (t.term = .aborted ∧ PortEvent.status .abort ∈ t.outs) ∨
            (t.term = .aborted ∧ PortEvent.status .aborted ∈ t.outs))))

/-- 10_state.md R28, 43_byte_framer.md R130: every processed RECV writes its byte to `PREV`, in either framer state and
whatever the outcome; a sticky RECV and ABORT leave it. -/
def Obligations.ProcessedByteBecomesPrev : Prop :=
  ∀ (s t : State) (w : CmdWord) (rest : List Request), s.commands = request w :: rest → s.initDone = true →
    s.Inv → step s = .next t →
    (opField w = 0b00#2 → s.term = .nominal → t.prev = dataField w) ∧
    (opField w = 0b00#2 → s.term ≠ .nominal → t.prev = s.prev) ∧
    (w = abortWord → t.prev = s.prev) ∧ (w = resetWord → t.prev = 0x00#8)

/-- 20_memory.md R62; 30_encoding.md R82, R86: the effects of a command that does not fault, in order: at most one sink
notification, then at most one transport write, one of the five replies that are not empty, then one status. -/
def Obligations.EffectsComeInOrder : Prop :=
  ∀ s t : State, step s = .next t → s.commands ≠ [] → t.faultMark = none →
    ∃ (evs : List SinkEvent) (tx : List (List Byte)) (c : Status),
      t.outs = evs.map .notify ++ tx.map .transmit ++ [.status c] ∧ evs.length ≤ 1 ∧ tx.length ≤ 1 ∧
      ∀ bs ∈ tx, bs ∈ [[0x15#8], [0x06#8], [0x06#8, 0x43#8], [0x18#8, 0x18#8], [0x43#8]]

/-- 46_response_generator.md R180: for every row of RECV that reaches the framer, the transport write and the change of
`TERM` are those of the outcome whose code is returned. -/
def Obligations.ResponseTable : Prop :=
  ∀ (s t : State) (i : Instr), s.faultMark = none → s.initDone = true → opField (encode i) = 0b00#2 →
    (∀ b, i ≠ .recvSticky b) → exec i s = .next t → t.faultMark = none →
    ∃ c, statusCodes t.outs = [c] ∧
      (c.code = 0#4 → transportWrites t.outs = [] ∧ t.term = s.term) ∧
      (c.code = 1#4 → transportWrites t.outs = [[0x15#8]] ∧ t.term = s.term) ∧
      (c.code = 2#4 → transportWrites t.outs = [[0x06#8]] ∧ t.term = s.term) ∧
      (c.code = 3#4 → transportWrites t.outs = [[0x06#8, 0x43#8]] ∧ t.term = s.term) ∧
      (c.code = 4#4 → transportWrites t.outs = [[0x06#8, 0x43#8]] ∧ t.term = s.term) ∧
      (c.code = 5#4 → transportWrites t.outs = [[0x06#8]] ∧ t.term.code = 1#3) ∧
      (c.code = 6#4 → transportWrites t.outs = [[0x18#8, 0x18#8]] ∧ t.term.code = 3#3) ∧
      (c.code = 7#4 → transportWrites t.outs = [[0x18#8, 0x18#8]] ∧ t.term.code = 4#3) ∧
      (c.code = 8#4 → transportWrites t.outs = [[0x18#8, 0x18#8]] ∧ t.term.code = 2#3) ∧
      (c.code = 9#4 → transportWrites t.outs = [[0x43#8]] ∧ t.term.code = 2#3)

/-- 44_packet_validator.md R147, 60_exceptions.md R222: a command that returns RX_ERROR leaves the session able to accept
the sender's retry: nominal, in AwaitingHeader, the counter, the end-of-transmission flag and the metadata unchanged, the
sink told nothing. -/
def Obligations.ReceiveErrorsAreRecoverable : Prop :=
  ∀ s t : State, step s = .next t → s.commands ≠ [] → PortEvent.status .rxError ∈ t.outs →
    s.term = .nominal ∧ t.term = .nominal ∧ t.await = true ∧ t.expSeq = s.expSeq ∧ t.eotSeen = s.eotSeen ∧
    t.fsize = s.fsize ∧ (∀ j, t.fname.read j = s.fname.read j) ∧ (∀ j, t.fsizeTxt.read j = s.fsizeTxt.read j) ∧
    sinkEvents t.outs = []

/-- 43_byte_framer.md R127, R131; 20_memory.md R52: any run of bytes that does not complete the packet lands in `PBUF` at
the offsets it was counted to, and changes nothing else but `CNT` and `PREV`. -/
def Obligations.AssemblyStoresEveryByte : Prop :=
  ∀ (bs : List Byte) (s : State) (rest : List Request), s.Accumulating → s.Inv → bs ≠ [] →
    s.cnt.toNat + bs.length ≤ s.psize.toNat + 4 → s.commands = bytesCommands bs ++ rest →
    ∃ pb pv, runSteps bs.length s = .next { s with
        commands := rest, pbuf := pb, cnt := s.cnt + BitVec.ofNat 11 bs.length, prev := pv
        outs := [.status .ok] } ∧
      some pv = bs.getLast? ∧
      (∀ k, k < bs.length → pb.read (s.cnt.toNat + k) = bs.getD k 0x00#8) ∧
      (∀ j, (j < s.cnt.toNat ∨ s.cnt.toNat + bs.length ≤ j) → pb.read j = s.pbuf.read j)

/-- 30_encoding.md R78, R89; 45_dispatcher_metadata.md R170: a whole data packet of either length, fed byte by byte to a
block in AwaitingHeader that expects its number, is delivered to the sink exactly as it was sent and acknowledged, and
the block expects the next number; for every payload, and whatever was in `PBUF`. The sink's answer is taken to be
success. -/
def Obligations.WholeDataPacketIsDelivered : Prop :=
  ∀ (s : State) (payload : List Byte) (rest : List Request), s.AwaitingHeader → s.Inv →
    payload.length = 128 ∨ payload.length = 1024 → s.eotSeen = false → s.expSeq ≠ 0x00#8 → sinkAnswer s = true →
    s.commands = bytesCommands (pkt s.expSeq payload) ++ rest →
    ∃ t, runSteps (payload.length + 5) s = .next t ∧
      t.outs = [.notify (.data payload.length payload), .transmit [0x06#8], .status .rxOk] ∧
      t.expSeq = s.expSeq + 0x01#8 ∧ t.AwaitingHeader ∧ t.Inv ∧ t.commands = rest

/-- 44_packet_validator.md R146, 70_reset_and_hazards.md R260: a whole packet that carries the number accepted last is
answered NAK and not delivered again, whatever its payload. -/
def Obligations.RetransmissionIsNotDelivered : Prop :=
  ∀ (s : State) (payload : List Byte) (rest : List Request), s.AwaitingHeader → s.Inv →
    payload.length = 128 ∨ payload.length = 1024 → s.eotSeen = false →
    s.commands = bytesCommands (pkt (s.expSeq - 0x01#8) payload) ++ rest →
    ∃ t, runSteps (payload.length + 5) s = .next t ∧
      t.outs = [.transmit [0x15#8], .status .rxError] ∧ t.expSeq = s.expSeq ∧ t.AwaitingHeader ∧
      t.commands = rest

/-- 41_checksum_engine.md R104, 44_packet_validator.md R144: a whole packet with exactly one payload byte changed on the
way, its trailer that of the original payload, is answered NAK and leaves `EXP_SEQ` and the session as they were. -/
def Obligations.OneCorruptedByteIsAnsweredNak : Prop :=
  ∀ (s : State) (pre post : List Byte) (x y : Byte) (rest : List Request), s.AwaitingHeader → s.Inv →
    (pre.length + post.length = 127 ∨ pre.length + post.length = 1023) → s.eotSeen = false → x ≠ y →
    s.commands = bytesCommands (pktRaw (leadFor (pre.length + post.length + 1)) s.expSeq (s.expSeq ^^^ 0xFF#8)
      (pre ++ [y] ++ post) (crc16 (pre ++ [x] ++ post))) ++ rest →
    ∃ t, runSteps (pre.length + post.length + 6) s = .next t ∧
      t.outs = [.transmit [0x15#8], .status .rxError] ∧ t.expSeq = s.expSeq ∧ t.AwaitingHeader ∧
      t.commands = rest

/-- 20_memory.md R50: in canonical form equal contents are equal data: two buffers that read the same at every index are
the same (the form is the model's own, notes/assumptions/10.md). -/
def Obligations.CanonicalBuffersAreEqualByContents : Prop :=
  ∀ (cap : Nat) (m n : Memory), Memory.wf cap m = true → Memory.wf cap n = true →
    (∀ j, m.read j = n.read j) → m = n
end

