-- ==== Sys2Proof/Laws/Memory.lean ====
section
/-! SUPPORT. The laws of the buffers: a read after a write, and that a write keeps the canonical form. -/

namespace Sys2Proof.Machine

@[simp] theorem read_empty (i : Nat) : Memory.read [] i = 0x00#8 := rfl

@[simp] theorem wf_empty (cap : Nat) : Memory.wf cap [] = true := rfl

@[simp] theorem read_cellOf_append (i : Nat) (v : Byte) (m : Memory) (j : Nat) (h : j ≠ i) :
    Memory.read (cellOf i v ++ m) j = Memory.read m j := by
  unfold cellOf
  split
  · rfl
  · simp [Memory.read, Ne.symm h]

/-- A write leaves every other index alone. -/
theorem read_write_ne (m : Memory) (i j : Nat) (v : Byte) (h : j ≠ i) :
    (m.write i v).read j = m.read j := by
  induction m with
  | nil =>
    have := read_cellOf_append i v [] j h
    rwa [List.append_nil] at this
  | cons c m ih =>
    obtain ⟨a, u⟩ := c
    unfold Memory.write
    split
    · exact read_cellOf_append i v _ j h
    · split
      · subst i
        rw [read_cellOf_append _ v m j h]
        simp [Memory.read, Ne.symm h]
      · by_cases ha : a = j <;> simp [Memory.read, ha, ih]

/-- A byte that is not what an unlisted index reads as is read back, in any memory. -/
theorem read_write_same_of_ne (m : Memory) (i : Nat) (v : Byte) (h : v ≠ 0x00#8) :
    (m.write i v).read i = v := by
  have hc : cellOf i v = [(i, v)] := by simp [cellOf, unlisted, h]
  induction m with
  | nil => simp [Memory.write, hc, Memory.read]
  | cons c m ih =>
    obtain ⟨a, u⟩ := c
    unfold Memory.write
    split
    · simp [hc, Memory.read]
    · split
      · simp [hc, Memory.read]
      · rename_i _ hne
        simpa [Memory.read, Ne.symm hne] using ih

/-- In a canonical memory from `lo` on, an index below `lo` is not listed. -/
theorem read_below (cap lo : Nat) (m : Memory) (h : Memory.wfFrom cap lo m = true) (i : Nat) (hi : i < lo) :
    m.read i = 0x00#8 := by
  induction m generalizing lo with
  | nil => rfl
  | cons c m ih =>
    obtain ⟨a, u⟩ := c
    simp only [Memory.wfFrom, Bool.and_eq_true, decide_eq_true_eq] at h
    have : a ≠ i := by omega
    simp only [Memory.read, this, if_false]
    exact ih (a + 1) h.2 (by omega)

/-- A byte is read back from a canonical memory, whatever the byte. -/
theorem read_write_same (cap lo : Nat) (m : Memory) (h : Memory.wfFrom cap lo m = true) (i : Nat) (v : Byte) :
    (m.write i v).read i = v := by
  by_cases hv : v = 0x00#8
  · subst hv
    have hc : cellOf i 0x00#8 = [] := by simp [cellOf, unlisted]
    induction m generalizing lo with
    | nil => simp [Memory.write, hc]
    | cons c m ih =>
      obtain ⟨a, u⟩ := c
      have h' := h
      simp only [Memory.wfFrom, Bool.and_eq_true, decide_eq_true_eq] at h
      unfold Memory.write
      split
      · rename_i hlt
        rw [hc, List.nil_append]
        exact read_below cap a ((a, u) :: m) (by simp [Memory.wfFrom, h]) i hlt
      · split
        · subst i
          rw [hc, List.nil_append]
          exact read_below cap (a + 1) m h.2 a (by omega)
        · rename_i _ hne
          simpa [Memory.read, Ne.symm hne] using ih (a + 1) h.2
  · exact read_write_same_of_ne m i v hv

theorem wfFrom_mono (cap lo lo' : Nat) (m : Memory) (h : Memory.wfFrom cap lo m = true) (hl : lo' ≤ lo) :
    Memory.wfFrom cap lo' m = true := by
  cases m with
  | nil => rfl
  | cons c m =>
    obtain ⟨a, u⟩ := c
    simp only [Memory.wfFrom, Bool.and_eq_true, decide_eq_true_eq] at h ⊢
    exact ⟨⟨⟨by omega, h.1.1.2⟩, h.1.2⟩, h.2⟩

theorem wfFrom_cellOf_append (cap lo i : Nat) (v : Byte) (m : Memory) (hl : lo ≤ i) (hi : i < cap)
    (h : Memory.wfFrom cap (i + 1) m = true) : Memory.wfFrom cap lo (cellOf i v ++ m) = true := by
  unfold cellOf
  split
  · exact wfFrom_mono cap (i + 1) lo m h (by omega)
  · rename_i hv
    simp [Memory.wfFrom, hl, hi, hv, h]

theorem wfFrom_write (cap lo : Nat) (m : Memory) (i : Nat) (v : Byte) (hl : lo ≤ i) (hi : i < cap)
    (h : Memory.wfFrom cap lo m = true) : Memory.wfFrom cap lo (m.write i v) = true := by
  induction m generalizing lo with
  | nil =>
    have := wfFrom_cellOf_append cap lo i v [] hl hi rfl
    rwa [List.append_nil] at this
  | cons c m ih =>
    obtain ⟨a, u⟩ := c
    have h' := h
    simp only [Memory.wfFrom, Bool.and_eq_true, decide_eq_true_eq] at h
    unfold Memory.write
    split
    · rename_i hlt
      exact wfFrom_cellOf_append cap lo i v _ hl hi (by simp [Memory.wfFrom, h]; omega)
    · split
      · subst i
        exact wfFrom_cellOf_append cap lo a v m hl hi h.2
      · have hlt : a + 1 ≤ i := by omega
        simp [Memory.wfFrom, h, ih (a + 1) hlt h.2]

/-- A write within the capacity keeps the canonical form. -/
theorem write_wf (cap : Nat) (m : Memory) (i : Nat) (v : Byte) (hi : i < cap) (h : m.wf cap = true) :
    (m.write i v).wf cap = true :=
  wfFrom_write cap 0 m i v (Nat.zero_le i) hi h

theorem writeAll_wf (cap : Nat) (bs : List Byte) (m : Memory) (i : Nat) (hi : i + bs.length ≤ cap)
    (h : m.wf cap = true) : (m.writeAll i bs).wf cap = true := by
  induction bs generalizing m i with
  | nil => exact h
  | cons b bs ih =>
    simp only [List.length_cons] at hi
    exact ih (m.write i b) (i + 1) (by omega) (write_wf cap m i b (by omega) h)

/-- Writing bytes one after another leaves every other index alone. -/
theorem read_writeAll_outside (bs : List Byte) (m : Memory) (i j : Nat) (h : j < i ∨ i + bs.length ≤ j) :
    (m.writeAll i bs).read j = m.read j := by
  induction bs generalizing m i with
  | nil => rfl
  | cons b bs ih =>
    simp only [List.length_cons] at h
    rw [Memory.writeAll, ih (m.write i b) (i + 1) (by omega), read_write_ne m i j b (by omega)]

/-- Bytes written one after another are read back from a canonical memory. -/
theorem read_writeAll (cap : Nat) (bs : List Byte) (m : Memory) (i k : Nat) (hk : k < bs.length)
    (hi : i + bs.length ≤ cap) (h : m.wf cap = true) :
    (m.writeAll i bs).read (i + k) = bs.getD k 0x00#8 := by
  induction bs generalizing m i k with
  | nil => simp at hk
  | cons b bs ih =>
    simp only [List.length_cons] at hk hi
    have hw := write_wf cap m i b (by omega) h
    cases k with
    | zero =>
      rw [Memory.writeAll, read_writeAll_outside bs _ (i + 1) (i + 0) (by omega)]
      simpa using read_write_same cap 0 m h i b
    | succ k =>
      have := ih (m.write i b) (i + 1) k (by omega) (by omega) hw
      rw [show i + (k + 1) = i + 1 + k by omega, Memory.writeAll, this]
      simp

@[simp] theorem slice_length (m : Memory) (i n : Nat) : (m.slice i n).length = n := by
  induction n generalizing i with
  | zero => rfl
  | succ n ih => simp [Memory.slice, ih]

theorem slice_getElem (m : Memory) (i n k : Nat) (hk : k < (m.slice i n).length) :
    (m.slice i n)[k] = m.read (i + k) := by
  induction n generalizing i k with
  | zero => simp at hk
  | succ n ih =>
    cases k with
    | zero => simp [Memory.slice]
    | succ k => simp [Memory.slice, ih, Nat.add_assoc, Nat.add_comm 1 k]

/-- Reading back what was written, as a whole. -/
theorem slice_writeAll (cap : Nat) (bs : List Byte) (m : Memory) (i : Nat) (hi : i + bs.length ≤ cap)
    (h : m.wf cap = true) : (m.writeAll i bs).slice i bs.length = bs := by
  apply List.ext_getElem
  · simp
  · intro k h1 h2
    rw [slice_getElem, read_writeAll cap bs m i k h2 hi h]
    simp [List.getD_eq_getElem?_getD, h2]

@[simp] theorem fillBytes_length (n : Nat) (x : List Byte) : (fillBytes n x).length = n := by
  simp [fillBytes]

end Sys2Proof.Machine
end

