-- ==== Sys2Proof/Laws/State.lean ====
section
/-! SUPPORT. Every field of the state after every named update of it, true by unfolding once here, so that no later
proof unfolds a record update. What `finishRecv` leaves in `outs` stands in Laws/Ops.lean. -/

namespace Sys2Proof.Machine

section

variable (s : State)

@[simp] theorem takeFault_initDone (f : Fault) : (takeFault f s).initDone = s.initDone := rfl
@[simp] theorem takeFault_term (f : Fault) : (takeFault f s).term = s.term := rfl
@[simp] theorem takeFault_await (f : Fault) : (takeFault f s).await = s.await := rfl
@[simp] theorem takeFault_eotSeen (f : Fault) : (takeFault f s).eotSeen = s.eotSeen := rfl
@[simp] theorem takeFault_expSeq (f : Fault) : (takeFault f s).expSeq = s.expSeq := rfl
@[simp] theorem takeFault_prev (f : Fault) : (takeFault f s).prev = s.prev := rfl
@[simp] theorem takeFault_cnt (f : Fault) : (takeFault f s).cnt = s.cnt := rfl
@[simp] theorem takeFault_psize (f : Fault) : (takeFault f s).psize = s.psize := rfl
@[simp] theorem takeFault_fsize (f : Fault) : (takeFault f s).fsize = s.fsize := rfl
@[simp] theorem takeFault_pbuf (f : Fault) : (takeFault f s).pbuf = s.pbuf := rfl
@[simp] theorem takeFault_fname (f : Fault) : (takeFault f s).fname = s.fname := rfl
@[simp] theorem takeFault_fsizeTxt (f : Fault) : (takeFault f s).fsizeTxt = s.fsizeTxt := rfl
@[simp] theorem takeFault_obuf (f : Fault) : (takeFault f s).obuf = s.obuf := rfl
@[simp] theorem takeFault_olen (f : Fault) : (takeFault f s).olen = s.olen := rfl
@[simp] theorem takeFault_faultMark (f : Fault) : (takeFault f s).faultMark = some f := rfl
@[simp] theorem takeFault_params (f : Fault) : (takeFault f s).params = s.params := rfl
@[simp] theorem takeFault_commands (f : Fault) : (takeFault f s).commands = s.commands := rfl
@[simp] theorem takeFault_sinkAnswers (f : Fault) : (takeFault f s).sinkAnswers = s.sinkAnswers := rfl
@[simp] theorem takeFault_draws (f : Fault) : (takeFault f s).draws = s.draws := rfl
@[simp] theorem takeFault_outs (f : Fault) : (takeFault f s).outs = [] := rfl

@[simp] theorem beginCommand_initDone : (beginCommand s).initDone = s.initDone := rfl
@[simp] theorem beginCommand_term : (beginCommand s).term = s.term := rfl
@[simp] theorem beginCommand_await : (beginCommand s).await = s.await := rfl
@[simp] theorem beginCommand_eotSeen : (beginCommand s).eotSeen = s.eotSeen := rfl
@[simp] theorem beginCommand_expSeq : (beginCommand s).expSeq = s.expSeq := rfl
@[simp] theorem beginCommand_prev : (beginCommand s).prev = s.prev := rfl
@[simp] theorem beginCommand_cnt : (beginCommand s).cnt = s.cnt := rfl
@[simp] theorem beginCommand_psize : (beginCommand s).psize = s.psize := rfl
@[simp] theorem beginCommand_fsize : (beginCommand s).fsize = s.fsize := rfl
@[simp] theorem beginCommand_pbuf : (beginCommand s).pbuf = s.pbuf := rfl
@[simp] theorem beginCommand_fname : (beginCommand s).fname = s.fname := rfl
@[simp] theorem beginCommand_fsizeTxt : (beginCommand s).fsizeTxt = s.fsizeTxt := rfl
@[simp] theorem beginCommand_obuf : (beginCommand s).obuf = s.obuf := rfl
@[simp] theorem beginCommand_olen : (beginCommand s).olen = s.olen := rfl
@[simp] theorem beginCommand_faultMark : (beginCommand s).faultMark = s.faultMark := rfl
@[simp] theorem beginCommand_params : (beginCommand s).params = s.params := rfl
@[simp] theorem beginCommand_commands : (beginCommand s).commands = s.commands := rfl
@[simp] theorem beginCommand_sinkAnswers : (beginCommand s).sinkAnswers = s.sinkAnswers := rfl
@[simp] theorem beginCommand_draws : (beginCommand s).draws = s.draws := rfl
@[simp] theorem beginCommand_outs : (beginCommand s).outs = [] := rfl

@[simp] theorem emptyReply_initDone : (emptyReply s).initDone = s.initDone := rfl
@[simp] theorem emptyReply_term : (emptyReply s).term = s.term := rfl
@[simp] theorem emptyReply_await : (emptyReply s).await = s.await := rfl
@[simp] theorem emptyReply_eotSeen : (emptyReply s).eotSeen = s.eotSeen := rfl
@[simp] theorem emptyReply_expSeq : (emptyReply s).expSeq = s.expSeq := rfl
@[simp] theorem emptyReply_prev : (emptyReply s).prev = s.prev := rfl
@[simp] theorem emptyReply_cnt : (emptyReply s).cnt = s.cnt := rfl
@[simp] theorem emptyReply_psize : (emptyReply s).psize = s.psize := rfl
@[simp] theorem emptyReply_fsize : (emptyReply s).fsize = s.fsize := rfl
@[simp] theorem emptyReply_pbuf : (emptyReply s).pbuf = s.pbuf := rfl
@[simp] theorem emptyReply_fname : (emptyReply s).fname = s.fname := rfl
@[simp] theorem emptyReply_fsizeTxt : (emptyReply s).fsizeTxt = s.fsizeTxt := rfl
@[simp] theorem emptyReply_obuf : (emptyReply s).obuf = s.obuf := rfl
@[simp] theorem emptyReply_olen : (emptyReply s).olen = 0 := rfl
@[simp] theorem emptyReply_faultMark : (emptyReply s).faultMark = s.faultMark := rfl
@[simp] theorem emptyReply_params : (emptyReply s).params = s.params := rfl
@[simp] theorem emptyReply_commands : (emptyReply s).commands = s.commands := rfl
@[simp] theorem emptyReply_sinkAnswers : (emptyReply s).sinkAnswers = s.sinkAnswers := rfl
@[simp] theorem emptyReply_draws : (emptyReply s).draws = s.draws := rfl
@[simp] theorem emptyReply_outs : (emptyReply s).outs = s.outs := rfl

@[simp] theorem emit_initDone (bs : List Byte) : (emit bs s).initDone = s.initDone := rfl
@[simp] theorem emit_term (bs : List Byte) : (emit bs s).term = s.term := rfl
@[simp] theorem emit_await (bs : List Byte) : (emit bs s).await = s.await := rfl
@[simp] theorem emit_eotSeen (bs : List Byte) : (emit bs s).eotSeen = s.eotSeen := rfl
@[simp] theorem emit_expSeq (bs : List Byte) : (emit bs s).expSeq = s.expSeq := rfl
@[simp] theorem emit_prev (bs : List Byte) : (emit bs s).prev = s.prev := rfl
@[simp] theorem emit_cnt (bs : List Byte) : (emit bs s).cnt = s.cnt := rfl
@[simp] theorem emit_psize (bs : List Byte) : (emit bs s).psize = s.psize := rfl
@[simp] theorem emit_fsize (bs : List Byte) : (emit bs s).fsize = s.fsize := rfl
@[simp] theorem emit_pbuf (bs : List Byte) : (emit bs s).pbuf = s.pbuf := rfl
@[simp] theorem emit_fname (bs : List Byte) : (emit bs s).fname = s.fname := rfl
@[simp] theorem emit_fsizeTxt (bs : List Byte) : (emit bs s).fsizeTxt = s.fsizeTxt := rfl
@[simp] theorem emit_obuf (bs : List Byte) : (emit bs s).obuf = s.obuf.writeAll s.olen bs := rfl
@[simp] theorem emit_olen (bs : List Byte) : (emit bs s).olen = s.olen + bs.length := rfl
@[simp] theorem emit_faultMark (bs : List Byte) : (emit bs s).faultMark = s.faultMark := rfl
@[simp] theorem emit_params (bs : List Byte) : (emit bs s).params = s.params := rfl
@[simp] theorem emit_commands (bs : List Byte) : (emit bs s).commands = s.commands := rfl
@[simp] theorem emit_sinkAnswers (bs : List Byte) : (emit bs s).sinkAnswers = s.sinkAnswers := rfl
@[simp] theorem emit_draws (bs : List Byte) : (emit bs s).draws = s.draws := rfl
@[simp] theorem emit_outs (bs : List Byte) : (emit bs s).outs = s.outs := rfl

@[simp] theorem notify_initDone (e : SinkEvent) : (notify e s).initDone = s.initDone := rfl
@[simp] theorem notify_term (e : SinkEvent) : (notify e s).term = s.term := rfl
@[simp] theorem notify_await (e : SinkEvent) : (notify e s).await = s.await := rfl
@[simp] theorem notify_eotSeen (e : SinkEvent) : (notify e s).eotSeen = s.eotSeen := rfl
@[simp] theorem notify_expSeq (e : SinkEvent) : (notify e s).expSeq = s.expSeq := rfl
@[simp] theorem notify_prev (e : SinkEvent) : (notify e s).prev = s.prev := rfl
@[simp] theorem notify_cnt (e : SinkEvent) : (notify e s).cnt = s.cnt := rfl
@[simp] theorem notify_psize (e : SinkEvent) : (notify e s).psize = s.psize := rfl
@[simp] theorem notify_fsize (e : SinkEvent) : (notify e s).fsize = s.fsize := rfl
@[simp] theorem notify_pbuf (e : SinkEvent) : (notify e s).pbuf = s.pbuf := rfl
@[simp] theorem notify_fname (e : SinkEvent) : (notify e s).fname = s.fname := rfl
@[simp] theorem notify_fsizeTxt (e : SinkEvent) : (notify e s).fsizeTxt = s.fsizeTxt := rfl
@[simp] theorem notify_obuf (e : SinkEvent) : (notify e s).obuf = s.obuf := rfl
@[simp] theorem notify_olen (e : SinkEvent) : (notify e s).olen = s.olen := rfl
@[simp] theorem notify_faultMark (e : SinkEvent) : (notify e s).faultMark = s.faultMark := rfl
@[simp] theorem notify_params (e : SinkEvent) : (notify e s).params = s.params := rfl
@[simp] theorem notify_commands (e : SinkEvent) : (notify e s).commands = s.commands := rfl
@[simp] theorem notify_sinkAnswers (e : SinkEvent) : (notify e s).sinkAnswers = s.sinkAnswers := rfl
@[simp] theorem notify_draws (e : SinkEvent) : (notify e s).draws = s.draws := rfl
@[simp] theorem notify_outs (e : SinkEvent) : (notify e s).outs = s.outs ++ [.notify e] := rfl

@[simp] theorem dropAnswer_initDone : (dropAnswer s).initDone = s.initDone := rfl
@[simp] theorem dropAnswer_term : (dropAnswer s).term = s.term := rfl
@[simp] theorem dropAnswer_await : (dropAnswer s).await = s.await := rfl
@[simp] theorem dropAnswer_eotSeen : (dropAnswer s).eotSeen = s.eotSeen := rfl
@[simp] theorem dropAnswer_expSeq : (dropAnswer s).expSeq = s.expSeq := rfl
@[simp] theorem dropAnswer_prev : (dropAnswer s).prev = s.prev := rfl
@[simp] theorem dropAnswer_cnt : (dropAnswer s).cnt = s.cnt := rfl
@[simp] theorem dropAnswer_psize : (dropAnswer s).psize = s.psize := rfl
@[simp] theorem dropAnswer_fsize : (dropAnswer s).fsize = s.fsize := rfl
@[simp] theorem dropAnswer_pbuf : (dropAnswer s).pbuf = s.pbuf := rfl
@[simp] theorem dropAnswer_fname : (dropAnswer s).fname = s.fname := rfl
@[simp] theorem dropAnswer_fsizeTxt : (dropAnswer s).fsizeTxt = s.fsizeTxt := rfl
@[simp] theorem dropAnswer_obuf : (dropAnswer s).obuf = s.obuf := rfl
@[simp] theorem dropAnswer_olen : (dropAnswer s).olen = s.olen := rfl
@[simp] theorem dropAnswer_faultMark : (dropAnswer s).faultMark = s.faultMark := rfl
@[simp] theorem dropAnswer_params : (dropAnswer s).params = s.params := rfl
@[simp] theorem dropAnswer_commands : (dropAnswer s).commands = s.commands := rfl
@[simp] theorem dropAnswer_sinkAnswers : (dropAnswer s).sinkAnswers = s.sinkAnswers.tail := rfl
@[simp] theorem dropAnswer_draws : (dropAnswer s).draws = if s.sinkAnswers.isEmpty then s.draws + 1 else s.draws := rfl
@[simp] theorem dropAnswer_outs : (dropAnswer s).outs = s.outs := rfl

@[simp] theorem endCommand_initDone : (endCommand s).initDone = s.initDone := rfl
@[simp] theorem endCommand_term : (endCommand s).term = s.term := rfl
@[simp] theorem endCommand_await : (endCommand s).await = s.await := rfl
@[simp] theorem endCommand_eotSeen : (endCommand s).eotSeen = s.eotSeen := rfl
@[simp] theorem endCommand_expSeq : (endCommand s).expSeq = s.expSeq := rfl
@[simp] theorem endCommand_prev : (endCommand s).prev = s.prev := rfl
@[simp] theorem endCommand_cnt : (endCommand s).cnt = s.cnt := rfl
@[simp] theorem endCommand_psize : (endCommand s).psize = s.psize := rfl
@[simp] theorem endCommand_fsize : (endCommand s).fsize = s.fsize := rfl
@[simp] theorem endCommand_pbuf : (endCommand s).pbuf = s.pbuf := rfl
@[simp] theorem endCommand_fname : (endCommand s).fname = s.fname := rfl
@[simp] theorem endCommand_fsizeTxt : (endCommand s).fsizeTxt = s.fsizeTxt := rfl
@[simp] theorem endCommand_obuf : (endCommand s).obuf = s.obuf := rfl
@[simp] theorem endCommand_olen : (endCommand s).olen = 0 := rfl
@[simp] theorem endCommand_faultMark : (endCommand s).faultMark = s.faultMark := rfl
@[simp] theorem endCommand_params : (endCommand s).params = s.params := rfl
@[simp] theorem endCommand_commands : (endCommand s).commands = s.commands := rfl
@[simp] theorem endCommand_sinkAnswers : (endCommand s).sinkAnswers = s.sinkAnswers := rfl
@[simp] theorem endCommand_draws : (endCommand s).draws = s.draws := rfl
@[simp] theorem endCommand_outs : (endCommand s).outs = if 0 < s.olen then s.outs ++ [.transmit (s.obuf.slice 0 s.olen)] else s.outs := rfl

@[simp] theorem returnStatus_initDone (c : Status) : (returnStatus c s).initDone = s.initDone := rfl
@[simp] theorem returnStatus_term (c : Status) : (returnStatus c s).term = s.term := rfl
@[simp] theorem returnStatus_await (c : Status) : (returnStatus c s).await = s.await := rfl
@[simp] theorem returnStatus_eotSeen (c : Status) : (returnStatus c s).eotSeen = s.eotSeen := rfl
@[simp] theorem returnStatus_expSeq (c : Status) : (returnStatus c s).expSeq = s.expSeq := rfl
@[simp] theorem returnStatus_prev (c : Status) : (returnStatus c s).prev = s.prev := rfl
@[simp] theorem returnStatus_cnt (c : Status) : (returnStatus c s).cnt = s.cnt := rfl
@[simp] theorem returnStatus_psize (c : Status) : (returnStatus c s).psize = s.psize := rfl
@[simp] theorem returnStatus_fsize (c : Status) : (returnStatus c s).fsize = s.fsize := rfl
@[simp] theorem returnStatus_pbuf (c : Status) : (returnStatus c s).pbuf = s.pbuf := rfl
@[simp] theorem returnStatus_fname (c : Status) : (returnStatus c s).fname = s.fname := rfl
@[simp] theorem returnStatus_fsizeTxt (c : Status) : (returnStatus c s).fsizeTxt = s.fsizeTxt := rfl
@[simp] theorem returnStatus_obuf (c : Status) : (returnStatus c s).obuf = s.obuf := rfl
@[simp] theorem returnStatus_olen (c : Status) : (returnStatus c s).olen = s.olen := rfl
@[simp] theorem returnStatus_faultMark (c : Status) : (returnStatus c s).faultMark = s.faultMark := rfl
@[simp] theorem returnStatus_params (c : Status) : (returnStatus c s).params = s.params := rfl
@[simp] theorem returnStatus_commands (c : Status) : (returnStatus c s).commands = s.commands := rfl
@[simp] theorem returnStatus_sinkAnswers (c : Status) : (returnStatus c s).sinkAnswers = s.sinkAnswers := rfl
@[simp] theorem returnStatus_draws (c : Status) : (returnStatus c s).draws = s.draws := rfl
@[simp] theorem returnStatus_outs (c : Status) : (returnStatus c s).outs = s.outs ++ [.status c] := rfl

@[simp] theorem clear_initDone : (clear s).initDone = s.initDone := rfl
@[simp] theorem clear_term : (clear s).term = .nominal := rfl
@[simp] theorem clear_await : (clear s).await = true := rfl
@[simp] theorem clear_eotSeen : (clear s).eotSeen = false := rfl
@[simp] theorem clear_expSeq : (clear s).expSeq = 0x00#8 := rfl
@[simp] theorem clear_prev : (clear s).prev = 0x00#8 := rfl
@[simp] theorem clear_cnt : (clear s).cnt = 0#11 := rfl
@[simp] theorem clear_psize : (clear s).psize = 0#11 := rfl
@[simp] theorem clear_fsize : (clear s).fsize = 0#32 := rfl
@[simp] theorem clear_pbuf : (clear s).pbuf = [] := rfl
@[simp] theorem clear_fname : (clear s).fname = [] := rfl
@[simp] theorem clear_fsizeTxt : (clear s).fsizeTxt = [] := rfl
@[simp] theorem clear_obuf : (clear s).obuf = s.obuf := rfl
@[simp] theorem clear_olen : (clear s).olen = 0 := rfl
@[simp] theorem clear_faultMark : (clear s).faultMark = s.faultMark := rfl
@[simp] theorem clear_params : (clear s).params = s.params := rfl
@[simp] theorem clear_commands : (clear s).commands = s.commands := rfl
@[simp] theorem clear_sinkAnswers : (clear s).sinkAnswers = s.sinkAnswers := rfl
@[simp] theorem clear_draws : (clear s).draws = s.draws := rfl
@[simp] theorem clear_outs : (clear s).outs = s.outs := rfl

@[simp] theorem clearPacket_initDone : (clearPacket s).initDone = s.initDone := rfl
@[simp] theorem clearPacket_term : (clearPacket s).term = s.term := rfl
@[simp] theorem clearPacket_await : (clearPacket s).await = true := rfl
@[simp] theorem clearPacket_eotSeen : (clearPacket s).eotSeen = s.eotSeen := rfl
@[simp] theorem clearPacket_expSeq : (clearPacket s).expSeq = s.expSeq := rfl
@[simp] theorem clearPacket_prev : (clearPacket s).prev = s.prev := rfl
@[simp] theorem clearPacket_cnt : (clearPacket s).cnt = 0#11 := rfl
@[simp] theorem clearPacket_psize : (clearPacket s).psize = s.psize := rfl
@[simp] theorem clearPacket_fsize : (clearPacket s).fsize = s.fsize := rfl
@[simp] theorem clearPacket_pbuf : (clearPacket s).pbuf = [] := rfl
@[simp] theorem clearPacket_fname : (clearPacket s).fname = s.fname := rfl
@[simp] theorem clearPacket_fsizeTxt : (clearPacket s).fsizeTxt = s.fsizeTxt := rfl
@[simp] theorem clearPacket_obuf : (clearPacket s).obuf = s.obuf := rfl
@[simp] theorem clearPacket_olen : (clearPacket s).olen = s.olen := rfl
@[simp] theorem clearPacket_faultMark : (clearPacket s).faultMark = s.faultMark := rfl
@[simp] theorem clearPacket_params : (clearPacket s).params = s.params := rfl
@[simp] theorem clearPacket_commands : (clearPacket s).commands = s.commands := rfl
@[simp] theorem clearPacket_sinkAnswers : (clearPacket s).sinkAnswers = s.sinkAnswers := rfl
@[simp] theorem clearPacket_draws : (clearPacket s).draws = s.draws := rfl
@[simp] theorem clearPacket_outs : (clearPacket s).outs = s.outs := rfl

@[simp] theorem startPacket_initDone (b : Byte) (p : Nat) : (startPacket b p s).initDone = s.initDone := rfl
@[simp] theorem startPacket_term (b : Byte) (p : Nat) : (startPacket b p s).term = s.term := rfl
@[simp] theorem startPacket_await (b : Byte) (p : Nat) : (startPacket b p s).await = false := rfl
@[simp] theorem startPacket_eotSeen (b : Byte) (p : Nat) : (startPacket b p s).eotSeen = s.eotSeen := rfl
@[simp] theorem startPacket_expSeq (b : Byte) (p : Nat) : (startPacket b p s).expSeq = s.expSeq := rfl
@[simp] theorem startPacket_prev (b : Byte) (p : Nat) : (startPacket b p s).prev = s.prev := rfl
@[simp] theorem startPacket_cnt (b : Byte) (p : Nat) : (startPacket b p s).cnt = 1#11 := rfl
@[simp] theorem startPacket_psize (b : Byte) (p : Nat) : (startPacket b p s).psize = BitVec.ofNat 11 p := rfl
@[simp] theorem startPacket_fsize (b : Byte) (p : Nat) : (startPacket b p s).fsize = s.fsize := rfl
@[simp] theorem startPacket_pbuf (b : Byte) (p : Nat) : (startPacket b p s).pbuf = s.pbuf.write 0 b := rfl
@[simp] theorem startPacket_fname (b : Byte) (p : Nat) : (startPacket b p s).fname = s.fname := rfl
@[simp] theorem startPacket_fsizeTxt (b : Byte) (p : Nat) : (startPacket b p s).fsizeTxt = s.fsizeTxt := rfl
@[simp] theorem startPacket_obuf (b : Byte) (p : Nat) : (startPacket b p s).obuf = s.obuf := rfl
@[simp] theorem startPacket_olen (b : Byte) (p : Nat) : (startPacket b p s).olen = s.olen := rfl
@[simp] theorem startPacket_faultMark (b : Byte) (p : Nat) : (startPacket b p s).faultMark = s.faultMark := rfl
@[simp] theorem startPacket_params (b : Byte) (p : Nat) : (startPacket b p s).params = s.params := rfl
@[simp] theorem startPacket_commands (b : Byte) (p : Nat) : (startPacket b p s).commands = s.commands := rfl
@[simp] theorem startPacket_sinkAnswers (b : Byte) (p : Nat) : (startPacket b p s).sinkAnswers = s.sinkAnswers := rfl
@[simp] theorem startPacket_draws (b : Byte) (p : Nat) : (startPacket b p s).draws = s.draws := rfl
@[simp] theorem startPacket_outs (b : Byte) (p : Nat) : (startPacket b p s).outs = s.outs := rfl

@[simp] theorem storeByte_initDone (b : Byte) : (storeByte b s).initDone = s.initDone := rfl
@[simp] theorem storeByte_term (b : Byte) : (storeByte b s).term = s.term := rfl
@[simp] theorem storeByte_await (b : Byte) : (storeByte b s).await = s.await := rfl
@[simp] theorem storeByte_eotSeen (b : Byte) : (storeByte b s).eotSeen = s.eotSeen := rfl
@[simp] theorem storeByte_expSeq (b : Byte) : (storeByte b s).expSeq = s.expSeq := rfl
@[simp] theorem storeByte_prev (b : Byte) : (storeByte b s).prev = s.prev := rfl
@[simp] theorem storeByte_cnt (b : Byte) : (storeByte b s).cnt = s.cnt := rfl
@[simp] theorem storeByte_psize (b : Byte) : (storeByte b s).psize = s.psize := rfl
@[simp] theorem storeByte_fsize (b : Byte) : (storeByte b s).fsize = s.fsize := rfl
@[simp] theorem storeByte_pbuf (b : Byte) : (storeByte b s).pbuf = s.pbuf.write s.cnt.toNat b := rfl
@[simp] theorem storeByte_fname (b : Byte) : (storeByte b s).fname = s.fname := rfl
@[simp] theorem storeByte_fsizeTxt (b : Byte) : (storeByte b s).fsizeTxt = s.fsizeTxt := rfl
@[simp] theorem storeByte_obuf (b : Byte) : (storeByte b s).obuf = s.obuf := rfl
@[simp] theorem storeByte_olen (b : Byte) : (storeByte b s).olen = s.olen := rfl
@[simp] theorem storeByte_faultMark (b : Byte) : (storeByte b s).faultMark = s.faultMark := rfl
@[simp] theorem storeByte_params (b : Byte) : (storeByte b s).params = s.params := rfl
@[simp] theorem storeByte_commands (b : Byte) : (storeByte b s).commands = s.commands := rfl
@[simp] theorem storeByte_sinkAnswers (b : Byte) : (storeByte b s).sinkAnswers = s.sinkAnswers := rfl
@[simp] theorem storeByte_draws (b : Byte) : (storeByte b s).draws = s.draws := rfl
@[simp] theorem storeByte_outs (b : Byte) : (storeByte b s).outs = s.outs := rfl

@[simp] theorem advance_initDone : (advance s).initDone = s.initDone := rfl
@[simp] theorem advance_term : (advance s).term = s.term := rfl
@[simp] theorem advance_await : (advance s).await = s.await := rfl
@[simp] theorem advance_eotSeen : (advance s).eotSeen = s.eotSeen := rfl
@[simp] theorem advance_expSeq : (advance s).expSeq = s.expSeq := rfl
@[simp] theorem advance_prev : (advance s).prev = s.prev := rfl
@[simp] theorem advance_cnt : (advance s).cnt = s.cnt + 1#11 := rfl
@[simp] theorem advance_psize : (advance s).psize = s.psize := rfl
@[simp] theorem advance_fsize : (advance s).fsize = s.fsize := rfl
@[simp] theorem advance_pbuf : (advance s).pbuf = s.pbuf := rfl
@[simp] theorem advance_fname : (advance s).fname = s.fname := rfl
@[simp] theorem advance_fsizeTxt : (advance s).fsizeTxt = s.fsizeTxt := rfl
@[simp] theorem advance_obuf : (advance s).obuf = s.obuf := rfl
@[simp] theorem advance_olen : (advance s).olen = s.olen := rfl
@[simp] theorem advance_faultMark : (advance s).faultMark = s.faultMark := rfl
@[simp] theorem advance_params : (advance s).params = s.params := rfl
@[simp] theorem advance_commands : (advance s).commands = s.commands := rfl
@[simp] theorem advance_sinkAnswers : (advance s).sinkAnswers = s.sinkAnswers := rfl
@[simp] theorem advance_draws : (advance s).draws = s.draws := rfl
@[simp] theorem advance_outs : (advance s).outs = s.outs := rfl

@[simp] theorem storeMetadata_initDone (d : Metadata) : (storeMetadata d s).initDone = s.initDone := rfl
@[simp] theorem storeMetadata_term (d : Metadata) : (storeMetadata d s).term = s.term := rfl
@[simp] theorem storeMetadata_await (d : Metadata) : (storeMetadata d s).await = s.await := rfl
@[simp] theorem storeMetadata_eotSeen (d : Metadata) : (storeMetadata d s).eotSeen = s.eotSeen := rfl
@[simp] theorem storeMetadata_expSeq (d : Metadata) : (storeMetadata d s).expSeq = s.expSeq := rfl
@[simp] theorem storeMetadata_prev (d : Metadata) : (storeMetadata d s).prev = s.prev := rfl
@[simp] theorem storeMetadata_cnt (d : Metadata) : (storeMetadata d s).cnt = s.cnt := rfl
@[simp] theorem storeMetadata_psize (d : Metadata) : (storeMetadata d s).psize = s.psize := rfl
@[simp] theorem storeMetadata_fsize (d : Metadata) : (storeMetadata d s).fsize = d.size := rfl
@[simp] theorem storeMetadata_pbuf (d : Metadata) : (storeMetadata d s).pbuf = s.pbuf := rfl
@[simp] theorem storeMetadata_fname (d : Metadata) : (storeMetadata d s).fname = s.fname.writeAll 0 (fillBytes s.params.fileNameMax.1 d.name) := rfl
@[simp] theorem storeMetadata_fsizeTxt (d : Metadata) : (storeMetadata d s).fsizeTxt = s.fsizeTxt.writeAll 0 (fillBytes (Config.decMaxDigits + 1) d.sizeText) := rfl
@[simp] theorem storeMetadata_obuf (d : Metadata) : (storeMetadata d s).obuf = s.obuf := rfl
@[simp] theorem storeMetadata_olen (d : Metadata) : (storeMetadata d s).olen = s.olen := rfl
@[simp] theorem storeMetadata_faultMark (d : Metadata) : (storeMetadata d s).faultMark = s.faultMark := rfl
@[simp] theorem storeMetadata_params (d : Metadata) : (storeMetadata d s).params = s.params := rfl
@[simp] theorem storeMetadata_commands (d : Metadata) : (storeMetadata d s).commands = s.commands := rfl
@[simp] theorem storeMetadata_sinkAnswers (d : Metadata) : (storeMetadata d s).sinkAnswers = s.sinkAnswers := rfl
@[simp] theorem storeMetadata_draws (d : Metadata) : (storeMetadata d s).draws = s.draws := rfl
@[simp] theorem storeMetadata_outs (d : Metadata) : (storeMetadata d s).outs = s.outs := rfl

@[simp] theorem setExpSeq_initDone (v : Byte) : (setExpSeq v s).initDone = s.initDone := rfl
@[simp] theorem setExpSeq_term (v : Byte) : (setExpSeq v s).term = s.term := rfl
@[simp] theorem setExpSeq_await (v : Byte) : (setExpSeq v s).await = s.await := rfl
@[simp] theorem setExpSeq_eotSeen (v : Byte) : (setExpSeq v s).eotSeen = s.eotSeen := rfl
@[simp] theorem setExpSeq_expSeq (v : Byte) : (setExpSeq v s).expSeq = v := rfl
@[simp] theorem setExpSeq_prev (v : Byte) : (setExpSeq v s).prev = s.prev := rfl
@[simp] theorem setExpSeq_cnt (v : Byte) : (setExpSeq v s).cnt = s.cnt := rfl
@[simp] theorem setExpSeq_psize (v : Byte) : (setExpSeq v s).psize = s.psize := rfl
@[simp] theorem setExpSeq_fsize (v : Byte) : (setExpSeq v s).fsize = s.fsize := rfl
@[simp] theorem setExpSeq_pbuf (v : Byte) : (setExpSeq v s).pbuf = s.pbuf := rfl
@[simp] theorem setExpSeq_fname (v : Byte) : (setExpSeq v s).fname = s.fname := rfl
@[simp] theorem setExpSeq_fsizeTxt (v : Byte) : (setExpSeq v s).fsizeTxt = s.fsizeTxt := rfl
@[simp] theorem setExpSeq_obuf (v : Byte) : (setExpSeq v s).obuf = s.obuf := rfl
@[simp] theorem setExpSeq_olen (v : Byte) : (setExpSeq v s).olen = s.olen := rfl
@[simp] theorem setExpSeq_faultMark (v : Byte) : (setExpSeq v s).faultMark = s.faultMark := rfl
@[simp] theorem setExpSeq_params (v : Byte) : (setExpSeq v s).params = s.params := rfl
@[simp] theorem setExpSeq_commands (v : Byte) : (setExpSeq v s).commands = s.commands := rfl
@[simp] theorem setExpSeq_sinkAnswers (v : Byte) : (setExpSeq v s).sinkAnswers = s.sinkAnswers := rfl
@[simp] theorem setExpSeq_draws (v : Byte) : (setExpSeq v s).draws = s.draws := rfl
@[simp] theorem setExpSeq_outs (v : Byte) : (setExpSeq v s).outs = s.outs := rfl

@[simp] theorem setPrev_initDone (b : Byte) : (setPrev b s).initDone = s.initDone := rfl
@[simp] theorem setPrev_term (b : Byte) : (setPrev b s).term = s.term := rfl
@[simp] theorem setPrev_await (b : Byte) : (setPrev b s).await = s.await := rfl
@[simp] theorem setPrev_eotSeen (b : Byte) : (setPrev b s).eotSeen = s.eotSeen := rfl
@[simp] theorem setPrev_expSeq (b : Byte) : (setPrev b s).expSeq = s.expSeq := rfl
@[simp] theorem setPrev_prev (b : Byte) : (setPrev b s).prev = b := rfl
@[simp] theorem setPrev_cnt (b : Byte) : (setPrev b s).cnt = s.cnt := rfl
@[simp] theorem setPrev_psize (b : Byte) : (setPrev b s).psize = s.psize := rfl
@[simp] theorem setPrev_fsize (b : Byte) : (setPrev b s).fsize = s.fsize := rfl
@[simp] theorem setPrev_pbuf (b : Byte) : (setPrev b s).pbuf = s.pbuf := rfl
@[simp] theorem setPrev_fname (b : Byte) : (setPrev b s).fname = s.fname := rfl
@[simp] theorem setPrev_fsizeTxt (b : Byte) : (setPrev b s).fsizeTxt = s.fsizeTxt := rfl
@[simp] theorem setPrev_obuf (b : Byte) : (setPrev b s).obuf = s.obuf := rfl
@[simp] theorem setPrev_olen (b : Byte) : (setPrev b s).olen = s.olen := rfl
@[simp] theorem setPrev_faultMark (b : Byte) : (setPrev b s).faultMark = s.faultMark := rfl
@[simp] theorem setPrev_params (b : Byte) : (setPrev b s).params = s.params := rfl
@[simp] theorem setPrev_commands (b : Byte) : (setPrev b s).commands = s.commands := rfl
@[simp] theorem setPrev_sinkAnswers (b : Byte) : (setPrev b s).sinkAnswers = s.sinkAnswers := rfl
@[simp] theorem setPrev_draws (b : Byte) : (setPrev b s).draws = s.draws := rfl
@[simp] theorem setPrev_outs (b : Byte) : (setPrev b s).outs = s.outs := rfl

@[simp] theorem markEot_initDone : (markEot s).initDone = s.initDone := rfl
@[simp] theorem markEot_term : (markEot s).term = s.term := rfl
@[simp] theorem markEot_await : (markEot s).await = s.await := rfl
@[simp] theorem markEot_eotSeen : (markEot s).eotSeen = true := rfl
@[simp] theorem markEot_expSeq : (markEot s).expSeq = s.expSeq := rfl
@[simp] theorem markEot_prev : (markEot s).prev = s.prev := rfl
@[simp] theorem markEot_cnt : (markEot s).cnt = s.cnt := rfl
@[simp] theorem markEot_psize : (markEot s).psize = s.psize := rfl
@[simp] theorem markEot_fsize : (markEot s).fsize = s.fsize := rfl
@[simp] theorem markEot_pbuf : (markEot s).pbuf = s.pbuf := rfl
@[simp] theorem markEot_fname : (markEot s).fname = s.fname := rfl
@[simp] theorem markEot_fsizeTxt : (markEot s).fsizeTxt = s.fsizeTxt := rfl
@[simp] theorem markEot_obuf : (markEot s).obuf = s.obuf := rfl
@[simp] theorem markEot_olen : (markEot s).olen = s.olen := rfl
@[simp] theorem markEot_faultMark : (markEot s).faultMark = s.faultMark := rfl
@[simp] theorem markEot_params : (markEot s).params = s.params := rfl
@[simp] theorem markEot_commands : (markEot s).commands = s.commands := rfl
@[simp] theorem markEot_sinkAnswers : (markEot s).sinkAnswers = s.sinkAnswers := rfl
@[simp] theorem markEot_draws : (markEot s).draws = s.draws := rfl
@[simp] theorem markEot_outs : (markEot s).outs = s.outs := rfl

@[simp] theorem setTerm_initDone (t : Term) : (setTerm t s).initDone = s.initDone := rfl
@[simp] theorem setTerm_term (t : Term) : (setTerm t s).term = t := rfl
@[simp] theorem setTerm_await (t : Term) : (setTerm t s).await = s.await := rfl
@[simp] theorem setTerm_eotSeen (t : Term) : (setTerm t s).eotSeen = s.eotSeen := rfl
@[simp] theorem setTerm_expSeq (t : Term) : (setTerm t s).expSeq = s.expSeq := rfl
@[simp] theorem setTerm_prev (t : Term) : (setTerm t s).prev = s.prev := rfl
@[simp] theorem setTerm_cnt (t : Term) : (setTerm t s).cnt = s.cnt := rfl
@[simp] theorem setTerm_psize (t : Term) : (setTerm t s).psize = s.psize := rfl
@[simp] theorem setTerm_fsize (t : Term) : (setTerm t s).fsize = s.fsize := rfl
@[simp] theorem setTerm_pbuf (t : Term) : (setTerm t s).pbuf = s.pbuf := rfl
@[simp] theorem setTerm_fname (t : Term) : (setTerm t s).fname = s.fname := rfl
@[simp] theorem setTerm_fsizeTxt (t : Term) : (setTerm t s).fsizeTxt = s.fsizeTxt := rfl
@[simp] theorem setTerm_obuf (t : Term) : (setTerm t s).obuf = s.obuf := rfl
@[simp] theorem setTerm_olen (t : Term) : (setTerm t s).olen = s.olen := rfl
@[simp] theorem setTerm_faultMark (t : Term) : (setTerm t s).faultMark = s.faultMark := rfl
@[simp] theorem setTerm_params (t : Term) : (setTerm t s).params = s.params := rfl
@[simp] theorem setTerm_commands (t : Term) : (setTerm t s).commands = s.commands := rfl
@[simp] theorem setTerm_sinkAnswers (t : Term) : (setTerm t s).sinkAnswers = s.sinkAnswers := rfl
@[simp] theorem setTerm_draws (t : Term) : (setTerm t s).draws = s.draws := rfl
@[simp] theorem setTerm_outs (t : Term) : (setTerm t s).outs = s.outs := rfl

@[simp] theorem takeCommand_initDone : (takeCommand s).initDone = s.initDone := rfl
@[simp] theorem takeCommand_term : (takeCommand s).term = s.term := rfl
@[simp] theorem takeCommand_await : (takeCommand s).await = s.await := rfl
@[simp] theorem takeCommand_eotSeen : (takeCommand s).eotSeen = s.eotSeen := rfl
@[simp] theorem takeCommand_expSeq : (takeCommand s).expSeq = s.expSeq := rfl
@[simp] theorem takeCommand_prev : (takeCommand s).prev = s.prev := rfl
@[simp] theorem takeCommand_cnt : (takeCommand s).cnt = s.cnt := rfl
@[simp] theorem takeCommand_psize : (takeCommand s).psize = s.psize := rfl
@[simp] theorem takeCommand_fsize : (takeCommand s).fsize = s.fsize := rfl
@[simp] theorem takeCommand_pbuf : (takeCommand s).pbuf = s.pbuf := rfl
@[simp] theorem takeCommand_fname : (takeCommand s).fname = s.fname := rfl
@[simp] theorem takeCommand_fsizeTxt : (takeCommand s).fsizeTxt = s.fsizeTxt := rfl
@[simp] theorem takeCommand_obuf : (takeCommand s).obuf = s.obuf := rfl
@[simp] theorem takeCommand_olen : (takeCommand s).olen = s.olen := rfl
@[simp] theorem takeCommand_faultMark : (takeCommand s).faultMark = s.faultMark := rfl
@[simp] theorem takeCommand_params : (takeCommand s).params = s.params := rfl
@[simp] theorem takeCommand_commands : (takeCommand s).commands = s.commands.tail := rfl
@[simp] theorem takeCommand_sinkAnswers : (takeCommand s).sinkAnswers = s.sinkAnswers := rfl
@[simp] theorem takeCommand_draws : (takeCommand s).draws = s.draws := rfl
@[simp] theorem takeCommand_outs : (takeCommand s).outs = s.outs := rfl

@[simp] theorem issue_initDone (w : CmdWord) : (issue w s).initDone = s.initDone := rfl
@[simp] theorem issue_term (w : CmdWord) : (issue w s).term = s.term := rfl
@[simp] theorem issue_await (w : CmdWord) : (issue w s).await = s.await := rfl
@[simp] theorem issue_eotSeen (w : CmdWord) : (issue w s).eotSeen = s.eotSeen := rfl
@[simp] theorem issue_expSeq (w : CmdWord) : (issue w s).expSeq = s.expSeq := rfl
@[simp] theorem issue_prev (w : CmdWord) : (issue w s).prev = s.prev := rfl
@[simp] theorem issue_cnt (w : CmdWord) : (issue w s).cnt = s.cnt := rfl
@[simp] theorem issue_psize (w : CmdWord) : (issue w s).psize = s.psize := rfl
@[simp] theorem issue_fsize (w : CmdWord) : (issue w s).fsize = s.fsize := rfl
@[simp] theorem issue_pbuf (w : CmdWord) : (issue w s).pbuf = s.pbuf := rfl
@[simp] theorem issue_fname (w : CmdWord) : (issue w s).fname = s.fname := rfl
@[simp] theorem issue_fsizeTxt (w : CmdWord) : (issue w s).fsizeTxt = s.fsizeTxt := rfl
@[simp] theorem issue_obuf (w : CmdWord) : (issue w s).obuf = s.obuf := rfl
@[simp] theorem issue_olen (w : CmdWord) : (issue w s).olen = s.olen := rfl
@[simp] theorem issue_faultMark (w : CmdWord) : (issue w s).faultMark = s.faultMark := rfl
@[simp] theorem issue_params (w : CmdWord) : (issue w s).params = s.params := rfl
@[simp] theorem issue_commands (w : CmdWord) : (issue w s).commands = { word := w, overlaps := false } :: s.commands := rfl
@[simp] theorem issue_sinkAnswers (w : CmdWord) : (issue w s).sinkAnswers = s.sinkAnswers := rfl
@[simp] theorem issue_draws (w : CmdWord) : (issue w s).draws = s.draws := rfl
@[simp] theorem issue_outs (w : CmdWord) : (issue w s).outs = s.outs := rfl

@[simp] theorem beginRecv_initDone : (beginRecv s).initDone = s.initDone := rfl
@[simp] theorem beginRecv_term : (beginRecv s).term = s.term := rfl
@[simp] theorem beginRecv_await : (beginRecv s).await = s.await := rfl
@[simp] theorem beginRecv_eotSeen : (beginRecv s).eotSeen = s.eotSeen := rfl
@[simp] theorem beginRecv_expSeq : (beginRecv s).expSeq = s.expSeq := rfl
@[simp] theorem beginRecv_prev : (beginRecv s).prev = s.prev := rfl
@[simp] theorem beginRecv_cnt : (beginRecv s).cnt = s.cnt := rfl
@[simp] theorem beginRecv_psize : (beginRecv s).psize = s.psize := rfl
@[simp] theorem beginRecv_fsize : (beginRecv s).fsize = s.fsize := rfl
@[simp] theorem beginRecv_pbuf : (beginRecv s).pbuf = s.pbuf := rfl
@[simp] theorem beginRecv_fname : (beginRecv s).fname = s.fname := rfl
@[simp] theorem beginRecv_fsizeTxt : (beginRecv s).fsizeTxt = s.fsizeTxt := rfl
@[simp] theorem beginRecv_obuf : (beginRecv s).obuf = s.obuf := rfl
@[simp] theorem beginRecv_olen : (beginRecv s).olen = 0 := rfl
@[simp] theorem beginRecv_faultMark : (beginRecv s).faultMark = s.faultMark := rfl
@[simp] theorem beginRecv_params : (beginRecv s).params = s.params := rfl
@[simp] theorem beginRecv_commands : (beginRecv s).commands = s.commands := rfl
@[simp] theorem beginRecv_sinkAnswers : (beginRecv s).sinkAnswers = s.sinkAnswers := rfl
@[simp] theorem beginRecv_draws : (beginRecv s).draws = s.draws := rfl
@[simp] theorem beginRecv_outs : (beginRecv s).outs = [] := rfl

@[simp] theorem respond_initDone (o : Status) : (respond o s).initDone = s.initDone := rfl
@[simp] theorem respond_term (o : Status) : (respond o s).term = (stickyOf o).getD s.term := rfl
@[simp] theorem respond_await (o : Status) : (respond o s).await = s.await := rfl
@[simp] theorem respond_eotSeen (o : Status) : (respond o s).eotSeen = s.eotSeen := rfl
@[simp] theorem respond_expSeq (o : Status) : (respond o s).expSeq = s.expSeq := rfl
@[simp] theorem respond_prev (o : Status) : (respond o s).prev = s.prev := rfl
@[simp] theorem respond_cnt (o : Status) : (respond o s).cnt = s.cnt := rfl
@[simp] theorem respond_psize (o : Status) : (respond o s).psize = s.psize := rfl
@[simp] theorem respond_fsize (o : Status) : (respond o s).fsize = s.fsize := rfl
@[simp] theorem respond_pbuf (o : Status) : (respond o s).pbuf = s.pbuf := rfl
@[simp] theorem respond_fname (o : Status) : (respond o s).fname = s.fname := rfl
@[simp] theorem respond_fsizeTxt (o : Status) : (respond o s).fsizeTxt = s.fsizeTxt := rfl
@[simp] theorem respond_obuf (o : Status) : (respond o s).obuf = s.obuf.writeAll s.olen (replyOf o) := rfl
@[simp] theorem respond_olen (o : Status) : (respond o s).olen = s.olen + (replyOf o).length := rfl
@[simp] theorem respond_faultMark (o : Status) : (respond o s).faultMark = s.faultMark := rfl
@[simp] theorem respond_params (o : Status) : (respond o s).params = s.params := rfl
@[simp] theorem respond_commands (o : Status) : (respond o s).commands = s.commands := rfl
@[simp] theorem respond_sinkAnswers (o : Status) : (respond o s).sinkAnswers = s.sinkAnswers := rfl
@[simp] theorem respond_draws (o : Status) : (respond o s).draws = s.draws := rfl
@[simp] theorem respond_outs (o : Status) : (respond o s).outs = s.outs := rfl

@[simp] theorem finishRecv_initDone (b : Byte) (o : Status) : (finishRecv b o s).initDone = s.initDone := rfl
@[simp] theorem finishRecv_term (b : Byte) (o : Status) : (finishRecv b o s).term = (stickyOf o).getD s.term := rfl
@[simp] theorem finishRecv_await (b : Byte) (o : Status) : (finishRecv b o s).await = s.await := rfl
@[simp] theorem finishRecv_eotSeen (b : Byte) (o : Status) : (finishRecv b o s).eotSeen = s.eotSeen := rfl
@[simp] theorem finishRecv_expSeq (b : Byte) (o : Status) : (finishRecv b o s).expSeq = s.expSeq := rfl
@[simp] theorem finishRecv_prev (b : Byte) (o : Status) : (finishRecv b o s).prev = b := rfl
@[simp] theorem finishRecv_cnt (b : Byte) (o : Status) : (finishRecv b o s).cnt = s.cnt := rfl
@[simp] theorem finishRecv_psize (b : Byte) (o : Status) : (finishRecv b o s).psize = s.psize := rfl
@[simp] theorem finishRecv_fsize (b : Byte) (o : Status) : (finishRecv b o s).fsize = s.fsize := rfl
@[simp] theorem finishRecv_pbuf (b : Byte) (o : Status) : (finishRecv b o s).pbuf = s.pbuf := rfl
@[simp] theorem finishRecv_fname (b : Byte) (o : Status) : (finishRecv b o s).fname = s.fname := rfl
@[simp] theorem finishRecv_fsizeTxt (b : Byte) (o : Status) : (finishRecv b o s).fsizeTxt = s.fsizeTxt := rfl
@[simp] theorem finishRecv_obuf (b : Byte) (o : Status) : (finishRecv b o s).obuf = s.obuf.writeAll s.olen (replyOf o) := rfl
@[simp] theorem finishRecv_olen (b : Byte) (o : Status) : (finishRecv b o s).olen = 0 := rfl
@[simp] theorem finishRecv_faultMark (b : Byte) (o : Status) : (finishRecv b o s).faultMark = s.faultMark := rfl
@[simp] theorem finishRecv_params (b : Byte) (o : Status) : (finishRecv b o s).params = s.params := rfl
@[simp] theorem finishRecv_commands (b : Byte) (o : Status) : (finishRecv b o s).commands = s.commands := rfl
@[simp] theorem finishRecv_sinkAnswers (b : Byte) (o : Status) : (finishRecv b o s).sinkAnswers = s.sinkAnswers := rfl
@[simp] theorem finishRecv_draws (b : Byte) (o : Status) : (finishRecv b o s).draws = s.draws := rfl

end

end Sys2Proof.Machine
end

