-- ==== Sys2Proof/Laws/Ops.lean ====
section
/-! SUPPORT. One lemma per shared operation that says once everything it can do: the phases, the guards of a meaning,
the end of a RECV, the completion of a packet, and the step itself. Later proofs cite these. -/

namespace Sys2Proof.Machine

/-! ### The phase -/

theorem phase_uninitialized_iff (s : State) : s.phase = .uninitialized ↔ s.initDone = false := by
  unfold State.phase
  cases s.initDone
  · simp
  · simp only [Bool.true_eq_false, if_false]
    split
    · simp
    · split <;> (try split) <;> simp

theorem phase_sticky_iff (s : State) : s.phase = .sticky ↔ s.initDone = true ∧ s.term ≠ .nominal := by
  unfold State.phase
  cases s.initDone
  · simp
  · simp only [Bool.true_eq_false, if_false]
    split
    · simp_all
    · split <;> (try split) <;> simp_all

theorem phase_header_iff (s : State) :
    s.phase = .header ↔ s.initDone = true ∧ s.term = .nominal ∧ s.await = true := by
  unfold State.phase
  cases s.initDone <;> simp
  split <;> (try split) <;> (try split) <;> simp_all

theorem phase_body_iff (s : State) :
    s.phase = .body ↔ s.initDone = true ∧ s.term = .nominal ∧ s.await = false ∧ s.cnt.toNat < s.psize.toNat + 4 := by
  unfold State.phase
  cases s.initDone <;> simp
  split <;> (try split) <;> (try split) <;> simp_all

theorem phase_bodyLast_iff (s : State) :
    s.phase = .bodyLast ↔
      s.initDone = true ∧ s.term = .nominal ∧ s.await = false ∧ s.psize.toNat + 4 ≤ s.cnt.toNat := by
  unfold State.phase
  cases s.initDone <;> simp
  split <;> (try split) <;> (try split) <;> simp_all

/-- A phase other than `uninitialized` is that of an initialized block. -/
theorem initDone_of_phase (s : State) (h : s.phase ≠ .uninitialized) : s.initDone = true := by
  cases hi : s.initDone
  · exact absurd ((phase_uninitialized_iff s).2 hi) h
  · rfl

/-! ### The guards of a meaning -/

theorem unlessFaulted_run (s : State) (k : Result) (h : s.faultMark = none) : unlessFaulted s k = k := by
  simp [unlessFaulted, h]

/-- What a guarded meaning can answer with a next state. -/
theorem unlessFaulted_next (s t : State) (k : Result) (h : unlessFaulted s k = .next t) :
    s.faultMark = none ∧ k = .next t := by
  unfold unlessFaulted at h
  split at h
  · cases h
  · exact ⟨‹_›, h⟩

theorem whenInitialized_run (s : State) (k : Result) (h : s.initDone = true) : whenInitialized s k = k := by
  simp [whenInitialized, h]

theorem whenInitialized_not (s : State) (k : Result) (h : s.initDone = false) :
    whenInitialized s k = .next (takeFault .notInitialized s) := by
  simp [whenInitialized, h]

theorem whenInitialized_next (s t : State) (k : Result) (h : whenInitialized s k = .next t) :
    (s.initDone = true ∧ k = .next t) ∨ (s.initDone = false ∧ t = takeFault .notInitialized s) := by
  unfold whenInitialized at h
  cases hi : s.initDone
  · right
    simp only [hi, Bool.false_eq_true, if_false] at h
    exact ⟨rfl, by cases h; rfl⟩
  · left
    simpa [hi] using h

/-- A RECV row that the decoder selects in this state runs its own effect. -/
theorem recvRow_run (i : Instr) (s : State) (k : Result) (hm : s.faultMark = none) (hi : s.initDone = true)
    (hw : i.wf = true) (hs : i.selectedIn s.phase = true) : recvRow i s k = k := by
  simp [recvRow, unlessFaulted, whenInitialized, hm, hi, hw, hs]

/-- What a RECV row can answer with a next state: its own effect, or the fault of a block not initialized. -/
theorem recvRow_next (i : Instr) (s t : State) (k : Result) (h : recvRow i s k = .next t) :
    s.faultMark = none ∧
      ((s.initDone = true ∧ i.wf = true ∧ i.selectedIn s.phase = true ∧ k = .next t) ∨
        (s.initDone = false ∧ t = takeFault .notInitialized s)) := by
  obtain ⟨hm, h⟩ := unlessFaulted_next _ _ _ h
  refine ⟨hm, ?_⟩
  obtain ⟨hi, h⟩ | h := whenInitialized_next _ _ _ h
  · left
    split at h
    · rename_i hc
      rw [Bool.and_eq_true] at hc
      exact ⟨hi, hc.1, hc.2, h⟩
    · cases h
  · exact .inr h

theorem withinPacketBuffer_run (s : State) (k : Result) (h : s.cnt.toNat < Config.pbufCap) :
    withinPacketBuffer s k = k := by
  simp [withinPacketBuffer, h]

theorem withinPacketBuffer_next (s t : State) (k : Result) (h : withinPacketBuffer s k = .next t) :
    (s.cnt.toNat < Config.pbufCap ∧ k = .next t) ∨
      (¬ s.cnt.toNat < Config.pbufCap ∧ t = takeFault .reservedCommand s) := by
  unfold withinPacketBuffer at h
  split at h
  · exact .inl ⟨‹_›, h⟩
  · exact .inr ⟨‹_›, by cases h; rfl⟩

/-! ### The end of a RECV -/

/-- Bytes none of which is what an unlisted index reads as are read back from any memory. -/
theorem slice_writeAll_of_ne (bs : List Byte) (m : Memory) (i : Nat) (h : ∀ b ∈ bs, b ≠ 0x00#8) :
    (m.writeAll i bs).slice i bs.length = bs := by
  induction bs generalizing m i with
  | nil => rfl
  | cons b bs ih =>
    have hb := h b (by simp)
    simp only [Memory.writeAll, List.length_cons, Memory.slice]
    rw [ih _ _ (fun c hc => h c (by simp [hc])), read_writeAll_outside bs _ (i + 1) i (by omega),
      read_write_same_of_ne m i b hb]

theorem replyOf_ne_zero (o : Status) : ∀ b ∈ replyOf o, b ≠ 0x00#8 := by
  cases o <;> decide

/-- The transport write of a reply: none if it is empty. -/
def transmitted (bs : List Byte) : List PortEvent := if bs = [] then [] else [.transmit bs]

/-- What a processed RECV does at the ports after the framer: the whole reply in one write, then the status. -/
theorem finishRecv_outs (b : Byte) (o : Status) (s : State) (h : s.olen = 0) :
    (finishRecv b o s).outs = s.outs ++ transmitted (replyOf o) ++ [.status o] := by
  have hs := slice_writeAll_of_ne (replyOf o) s.obuf 0 (replyOf_ne_zero o)
  cases hr : replyOf o with
  | nil => simp [finishRecv, h, hr, transmitted]
  | cons c cs => rw [hr] at hs; simpa [finishRecv, h, hr, transmitted] using hs

/-- What ABORT does at the ports. -/
theorem abortReply_outs (s : State) (h : s.olen = 0) :
    (endCommand (emit [Config.can, Config.can] s)).outs = s.outs ++ [.transmit [Config.can, Config.can]] := by
  have hs := slice_writeAll_of_ne [Config.can, Config.can] s.obuf 0 (by decide)
  simpa [h] using hs

/-! ### The completion of a packet -/

/-- What `announce` can do: notify NAME, read one answer, and set `EXP_SEQ` to 1 exactly when it is accepted. -/
theorem announce_cases (d : Metadata) (s : State) :
    (sinkAnswer s = true ∧
      announce d s = (.startRx, setExpSeq 0x01#8 (dropAnswer (notify (.name d.name d.size) s)))) ∨
    (sinkAnswer s = false ∧ announce d s = (.sizeErr, dropAnswer (notify (.name d.name d.size) s))) := by
  unfold announce
  cases h : sinkAnswer s <;> simp

/-- What the Metadata Parser can do. -/
theorem metaPacket_cases (p : List Byte) (s : State) :
    (p.headD 0x00#8 = 0x00#8 ∧ metaPacket p s = (.abort, s)) ∨
    (p.headD 0x00#8 ≠ 0x00#8 ∧ parseMetadata s.params.fileNameMax.1 p = none ∧ metaPacket p s = (.sizeErr, s)) ∨
    (∃ d, p.headD 0x00#8 ≠ 0x00#8 ∧ parseMetadata s.params.fileNameMax.1 p = some d ∧
      metaPacket p s = announce d (storeMetadata d s)) := by
  unfold metaPacket
  by_cases h0 : p.headD 0x00#8 = Config.nul
  · exact .inl ⟨h0, by simp only [h0, if_true]⟩
  · right
    simp only [h0, if_false]
    cases hp : parseMetadata s.params.fileNameMax.1 p with
    | none => exact .inl ⟨h0, rfl, rfl⟩
    | some d => exact .inr ⟨d, h0, rfl, rfl⟩

/-- What data delivery can do: notify DATA, read one answer, and advance `EXP_SEQ` exactly on success. -/
theorem dataDeliver_cases (p : List Byte) (s : State) :
    (sinkAnswer s = true ∧
      dataDeliver p s =
        (.rxOk, setExpSeq (s.expSeq + 0x01#8) (dropAnswer (notify (.data s.psize.toNat p) s)))) ∨
    (sinkAnswer s = false ∧ dataDeliver p s = (.writeErr, dropAnswer (notify (.data s.psize.toNat p) s))) := by
  unfold dataDeliver
  cases h : sinkAnswer s <;> simp

/-- A packet that passes every check before dispatch. -/
structure Validated (s : State) : Prop where
  complement : complementOk (seqByte s.pbuf) (cseqByte s.pbuf) = true
  noEot : s.eotSeen = false
  sequence : seqByte s.pbuf = s.expSeq
  checksum : crc16 (payloadOf s.pbuf s.psize.toNat) = rxCrc s.pbuf s.psize.toNat

/-- What the Packet Validator can do: reject with no change, end the session, or dispatch a validated packet. -/
theorem completePacket_cases (s : State) :
    completePacket s = (.rxError, s) ∨
    (s.eotSeen = true ∧ completePacket s = (.success, notify .sessionEnd s)) ∨
    (Validated s ∧ completePacket s = dispatch s) := by
  unfold completePacket
  cases hc : complementOk (seqByte s.pbuf) (cseqByte s.pbuf)
  · simp
  · cases he : s.eotSeen
    · cases hq : sequenceOk (seqByte s.pbuf) s.expSeq
      · simp
      · cases hk : checksumOk (crc16 (payloadOf s.pbuf s.psize.toNat)) (rxCrc s.pbuf s.psize.toNat)
        · simp
        · right; right
          exact ⟨⟨hc, he, by simpa [sequenceOk] using hq, by simpa [checksumOk] using hk⟩, by simp⟩
    · simp

/-- The route of a validated packet. -/
theorem dispatch_cases (s : State) :
    (seqByte s.pbuf = 0x00#8 ∧ dispatch s = metaPacket (payloadOf s.pbuf s.psize.toNat) s) ∨
    (seqByte s.pbuf ≠ 0x00#8 ∧ dispatch s = dataDeliver (payloadOf s.pbuf s.psize.toNat) s) := by
  unfold dispatch
  by_cases h : seqByte s.pbuf = 0x00#8
  · exact .inl ⟨h, by simp only [h, if_true]⟩
  · exact .inr ⟨h, by simp only [h, if_false]⟩

/-! ### The step -/

/-- What one step can answer with a next state: hold the state, take a fault, or execute the decoded command. -/
theorem step_next (s t : State) (h : step s = .next t) :
    s.faultMark = none ∧
      ((s.commands = [] ∧ t = s) ∨
        (∃ r rest f, s.commands = r :: rest ∧ fetch r s = .error f ∧ t = takeFault f (takeCommand s)) ∨
        (∃ r rest i, s.commands = r :: rest ∧ fetch r s = .ok i ∧ exec i (takeCommand s) = .next t)) := by
  unfold step at h
  split at h
  · cases h
  · refine ⟨‹_›, ?_⟩
    split at h
    · exact .inl ⟨‹_›, by cases h; rfl⟩
    · rename_i r rest hr
      right
      split at h
      · rename_i f hf
        exact .inl ⟨r, rest, f, hr, hf, by cases h; rfl⟩
      · rename_i i hi
        exact .inr ⟨r, rest, i, hr, hi, h⟩

/-- The phase does not look at the command port. -/
@[simp] theorem phase_takeCommand (s : State) : (takeCommand s).phase = s.phase := rfl

/-- What fetching can answer with an instruction: the one the decoder gives, the command not overlapping. -/
theorem fetch_ok (r : Request) (s : State) (i : Instr) (h : fetch r s = .ok i) :
    r.overlaps = false ∧ decode s.phase r.word = .ok i := by
  unfold fetch at h
  cases ho : r.overlaps
  · simp only [ho, Bool.false_eq_true, if_false] at h
    split at h
    · rename_i j hj
      cases h
      exact ⟨rfl, hj⟩
    · cases h
  · simp [ho] at h

end Sys2Proof.Machine
end

