-- ==== Sys2Proof/Laws/Exec.lean ====
section
/-! SUPPORT. Inversion of `exec`: everything a command can answer with a next state, said once. A proof about every
instruction or every step takes `exec_next` (or `recv_next` for the rows that reach the framer) and cases on it. -/

namespace Sys2Proof.Machine

/-- Everything `exec` can answer with a next state, one case per way. -/
inductive ExecNext (s : State) : Instr → State → Prop
  | uninitialized (i : Instr) (h : i ≠ .init) (hi : s.initDone = false) :
      ExecNext s i (takeFault .notInitialized s)
  | outside (i : Instr) (hc : ¬ s.cnt.toNat < Config.pbufCap)
      (hp : (s.phase = .body ∧ ∃ b, i = .recvBody b) ∨ (s.phase = .bodyLast ∧ ∃ b, i = .recvBodyLast b)) :
      ExecNext s i (takeFault .reservedCommand s)
  | firstInit (h : s.initDone = false) :
      ExecNext s .init (returnStatus .ok { clear (beginCommand s) with initDone := true })
  | laterInit (h : s.initDone = true) : ExecNext s .init (returnStatus .ok (beginCommand s))
  | reset (h : s.initDone = true) : ExecNext s .reset (returnStatus .ok (clear (beginCommand s)))
  | abort (h : s.initDone = true) :
      ExecNext s .abort (returnStatus .aborted
        (endCommand (setTerm .aborted (emit [Config.can, Config.can] (emptyReply (beginCommand s))))))
  | sticky (b : Byte) (h : s.phase = .sticky) :
      ExecNext s (.recvSticky b) (returnStatus (stickyCode s.term) (beginRecv s))
  | soh (h : s.phase = .header) :
      ExecNext s .recvSoh (finishRecv Config.soh .ok (startPacket Config.soh Config.pShort (beginRecv s)))
  | stx (h : s.phase = .header) :
      ExecNext s .recvStx (finishRecv Config.stx .ok (startPacket Config.stx Config.pLong (beginRecv s)))
  | eot (h : s.phase = .header) :
      ExecNext s .recvEot (finishRecv Config.eot .rxComplete (markEot (beginRecv s)))
  | firstCan (h : s.phase = .header) (hp : s.prev ≠ Config.can) :
      ExecNext s .recvCan (finishRecv Config.can .ok (beginRecv s))
  | secondCan (h : s.phase = .header) (hp : s.prev = Config.can) :
      ExecNext s .recvCan (finishRecv Config.can .aborted (notify .aborted (beginRecv s)))
  | upper (h : s.phase = .header) :
      ExecNext s .recvUabortUpper (finishRecv Config.upperA .abort (beginRecv s))
  | lower (h : s.phase = .header) :
      ExecNext s .recvUabortLower (finishRecv Config.lowerA .abort (beginRecv s))
  | other (b : Byte) (h : s.phase = .header) :
      ExecNext s (.recvHdrOther b) (finishRecv b .rxError (beginRecv s))
  | body (b : Byte) (h : s.phase = .body) (hc : s.cnt.toNat < Config.pbufCap) :
      ExecNext s (.recvBody b) (finishRecv b .ok (advance (storeByte b (beginRecv s))))
  | bodyLast (b : Byte) (h : s.phase = .bodyLast) (hc : s.cnt.toNat < Config.pbufCap) :
      ExecNext s (.recvBodyLast b) (finishRecv b (completePacket (storeByte b (beginRecv s))).1
        (clearPacket (completePacket (storeByte b (beginRecv s))).2))

theorem exec_next (s t : State) (i : Instr) (h : exec i s = .next t) : s.faultMark = none ∧ ExecNext s i t := by
  cases i
  case init =>
    obtain ⟨hm, h⟩ := unlessFaulted_next _ _ _ h
    refine ⟨hm, ?_⟩
    cases hi : s.initDone <;> simp only [hi, Bool.false_eq_true, if_true, if_false] at h <;> cases h
    · exact .firstInit hi
    · exact .laterInit hi
  case reset =>
    obtain ⟨hm, h⟩ := unlessFaulted_next _ _ _ h
    obtain ⟨hi, h⟩ | ⟨hi, rfl⟩ := whenInitialized_next _ _ _ h
    · cases h
      exact ⟨hm, .reset hi⟩
    · exact ⟨hm, .uninitialized _ (by simp) hi⟩
  case abort =>
    obtain ⟨hm, h⟩ := unlessFaulted_next _ _ _ h
    obtain ⟨hi, h⟩ | ⟨hi, rfl⟩ := whenInitialized_next _ _ _ h
    · cases h
      exact ⟨hm, .abort hi⟩
    · exact ⟨hm, .uninitialized _ (by simp) hi⟩
  case recvSticky b =>
    obtain ⟨hm, ⟨hi, hw, hs, h⟩ | ⟨hi, rfl⟩⟩ := recvRow_next _ _ _ _ h
    · simp only [Instr.selectedIn, beq_iff_eq] at hs
      cases h
      exact ⟨hm, .sticky b hs⟩
    · exact ⟨hm, .uninitialized _ (by simp) hi⟩
  case recvSoh =>
    obtain ⟨hm, ⟨hi, hw, hs, h⟩ | ⟨hi, rfl⟩⟩ := recvRow_next _ _ _ _ h
    · simp only [Instr.selectedIn, beq_iff_eq] at hs
      cases h
      exact ⟨hm, .soh hs⟩
    · exact ⟨hm, .uninitialized _ (by simp) hi⟩
  case recvStx =>
    obtain ⟨hm, ⟨hi, hw, hs, h⟩ | ⟨hi, rfl⟩⟩ := recvRow_next _ _ _ _ h
    · simp only [Instr.selectedIn, beq_iff_eq] at hs
      cases h
      exact ⟨hm, .stx hs⟩
    · exact ⟨hm, .uninitialized _ (by simp) hi⟩
  case recvEot =>
    obtain ⟨hm, ⟨hi, hw, hs, h⟩ | ⟨hi, rfl⟩⟩ := recvRow_next _ _ _ _ h
    · simp only [Instr.selectedIn, beq_iff_eq] at hs
      cases h
      exact ⟨hm, .eot hs⟩
    · exact ⟨hm, .uninitialized _ (by simp) hi⟩
  case recvUabortUpper =>
    obtain ⟨hm, ⟨hi, hw, hs, h⟩ | ⟨hi, rfl⟩⟩ := recvRow_next _ _ _ _ h
    · simp only [Instr.selectedIn, beq_iff_eq] at hs
      cases h
      exact ⟨hm, .upper hs⟩
    · exact ⟨hm, .uninitialized _ (by simp) hi⟩
  case recvUabortLower =>
    obtain ⟨hm, ⟨hi, hw, hs, h⟩ | ⟨hi, rfl⟩⟩ := recvRow_next _ _ _ _ h
    · simp only [Instr.selectedIn, beq_iff_eq] at hs
      cases h
      exact ⟨hm, .lower hs⟩
    · exact ⟨hm, .uninitialized _ (by simp) hi⟩
  case recvHdrOther b =>
    obtain ⟨hm, ⟨hi, hw, hs, h⟩ | ⟨hi, rfl⟩⟩ := recvRow_next _ _ _ _ h
    · simp only [Instr.selectedIn, beq_iff_eq] at hs
      cases h
      exact ⟨hm, .other b hs⟩
    · exact ⟨hm, .uninitialized _ (by simp) hi⟩
  case recvCan =>
    obtain ⟨hm, ⟨hi, hw, hs, h⟩ | ⟨hi, rfl⟩⟩ := recvRow_next _ _ _ _ h
    · simp only [Instr.selectedIn, beq_iff_eq] at hs
      split at h <;> cases h
      · exact ⟨hm, .secondCan hs ‹_›⟩
      · exact ⟨hm, .firstCan hs ‹_›⟩
    · exact ⟨hm, .uninitialized _ (by simp) hi⟩
  case recvBody b =>
    obtain ⟨hm, ⟨hi, hw, hs, h⟩ | ⟨hi, rfl⟩⟩ := recvRow_next _ _ _ _ h
    · simp only [Instr.selectedIn, beq_iff_eq] at hs
      obtain ⟨hc, h⟩ | ⟨hc, rfl⟩ := withinPacketBuffer_next _ _ _ h
      · cases h
        exact ⟨hm, .body b hs hc⟩
      · exact ⟨hm, .outside _ hc (.inl ⟨hs, b, rfl⟩)⟩
    · exact ⟨hm, .uninitialized _ (by simp) hi⟩
  case recvBodyLast b =>
    obtain ⟨hm, ⟨hi, hw, hs, h⟩ | ⟨hi, rfl⟩⟩ := recvRow_next _ _ _ _ h
    · simp only [Instr.selectedIn, beq_iff_eq] at hs
      obtain ⟨hc, h⟩ | ⟨hc, rfl⟩ := withinPacketBuffer_next _ _ _ h
      · cases h
        exact ⟨hm, .bodyLast b hs hc⟩
      · exact ⟨hm, .outside _ hc (.inr ⟨hs, b, rfl⟩)⟩
    · exact ⟨hm, .uninitialized _ (by simp) hi⟩

/-- Everything the completion of a packet can do. -/
inductive Completed (s : State) : Status × State → Prop
  | rejected : Completed s (.rxError, s)
  | closed (he : s.eotSeen = true) : Completed s (.success, notify .sessionEnd s)
  | batchEnd (hv : Validated s) (h0 : seqByte s.pbuf = 0x00#8) : Completed s (.abort, s)
  | malformed (hv : Validated s) (h0 : seqByte s.pbuf = 0x00#8) : Completed s (.sizeErr, s)
  | accepted (hv : Validated s) (h0 : seqByte s.pbuf = 0x00#8) (d : Metadata) (ha : sinkAnswer s = true) :
      Completed s (.startRx, setExpSeq 0x01#8 (dropAnswer (notify (.name d.name d.size) (storeMetadata d s))))
  | refused (hv : Validated s) (h0 : seqByte s.pbuf = 0x00#8) (d : Metadata) (ha : sinkAnswer s = false) :
      Completed s (.sizeErr, dropAnswer (notify (.name d.name d.size) (storeMetadata d s)))
  | delivered (hv : Validated s) (h0 : seqByte s.pbuf ≠ 0x00#8) (ha : sinkAnswer s = true) :
      Completed s (.rxOk, setExpSeq (s.expSeq + 0x01#8)
        (dropAnswer (notify (.data s.psize.toNat (payloadOf s.pbuf s.psize.toNat)) s)))
  | failed (hv : Validated s) (h0 : seqByte s.pbuf ≠ 0x00#8) (ha : sinkAnswer s = false) :
      Completed s (.writeErr, dropAnswer (notify (.data s.psize.toNat (payloadOf s.pbuf s.psize.toNat)) s))

theorem completePacket_completed (s : State) : Completed s (completePacket s) := by
  obtain h | ⟨he, h⟩ | ⟨hv, h⟩ := completePacket_cases s
  · rw [h]; exact .rejected
  · rw [h]; exact .closed he
  · rw [h]
    obtain ⟨h0, hd⟩ | ⟨h0, hd⟩ := dispatch_cases s
    · rw [hd]
      obtain ⟨_, hm⟩ | ⟨_, _, hm⟩ | ⟨d, _, _, hm⟩ := metaPacket_cases (payloadOf s.pbuf s.psize.toNat) s
      · rw [hm]; exact .batchEnd hv h0
      · rw [hm]; exact .malformed hv h0
      · rw [hm]
        obtain ⟨hs, ha⟩ | ⟨hs, ha⟩ := announce_cases d (storeMetadata d s)
        · rw [ha]; exact .accepted hv h0 d hs
        · rw [ha]; exact .refused hv h0 d hs
    · rw [hd]
      obtain ⟨hs, ha⟩ | ⟨hs, ha⟩ := dataDeliver_cases (payloadOf s.pbuf s.psize.toNat) s
      · rw [ha]; exact .delivered hv h0 hs
      · rw [ha]; exact .failed hv h0 hs

/-- What the completion of a packet leaves alone. -/
theorem completePacket_frame (s : State) :
    (completePacket s).2.initDone = s.initDone ∧ (completePacket s).2.term = s.term ∧
    (completePacket s).2.eotSeen = s.eotSeen ∧ (completePacket s).2.psize = s.psize ∧
    (completePacket s).2.obuf = s.obuf ∧ (completePacket s).2.olen = s.olen ∧
    (completePacket s).2.faultMark = s.faultMark ∧ (completePacket s).2.params = s.params ∧
    (completePacket s).2.commands = s.commands := by
  have h := completePacket_completed s
  generalize completePacket s = r at h
  cases h <;> simp

/-! ### Running a row in a state that selects it -/

theorem phase_of_awaitingHeader (s : State) (h : s.AwaitingHeader) : s.phase = .header :=
  (phase_header_iff s).2 ⟨h.initDone, h.nominal, h.awaiting⟩

theorem phase_of_terminated (s : State) (h : s.Terminated) : s.phase = .sticky :=
  (phase_sticky_iff s).2 ⟨h.initDone, h.sticky⟩

theorem headerRow_run (s : State) (h : s.AwaitingHeader) (i : Instr) (hw : i.wf = true)
    (hs : i.selectedIn .header = true) (k : Result) : recvRow i s k = k :=
  recvRow_run _ _ _ h.noFault h.initDone hw (by rw [phase_of_awaitingHeader s h]; exact hs)

theorem recvBody_run (s : State) (b : Byte) (h : s.Accumulating) (hc : s.cnt.toNat < s.psize.toNat + 4)
    (hb : s.cnt.toNat < Config.pbufCap) :
    exec (.recvBody b) s = .next (finishRecv b .ok (advance (storeByte b (beginRecv s)))) := by
  have hp := (phase_body_iff s).2 ⟨h.initDone, h.nominal, h.accumulating, hc⟩
  simp only [exec, execRecvBody]
  rw [recvRow_run _ _ _ h.noFault h.initDone rfl (by rw [hp]; rfl), withinPacketBuffer_run _ _ hb]

theorem recvBodyLast_run (s : State) (b : Byte) (h : s.Accumulating) (hc : s.psize.toNat + 4 ≤ s.cnt.toNat)
    (hb : s.cnt.toNat < Config.pbufCap) :
    exec (.recvBodyLast b) s = .next (finishRecv b (completePacket (storeByte b (beginRecv s))).1
      (clearPacket (completePacket (storeByte b (beginRecv s))).2)) := by
  have hp := (phase_bodyLast_iff s).2 ⟨h.initDone, h.nominal, h.accumulating, hc⟩
  simp only [exec, execRecvBodyLast]
  rw [recvRow_run _ _ _ h.noFault h.initDone rfl (by rw [hp]; rfl), withinPacketBuffer_run _ _ hb]

end Sys2Proof.Machine
end

