-- ==== Sys2Proof/Laws/PerInstr.lean ====
section
/-! SUPPORT. A family of statements made once per instruction: the fields of an instruction's word are its `op` and its
`data` (30_encoding.md R70). -/

namespace Sys2Proof.Laws.EncodeFields

/-- The word of an instruction holds its `op` in bits 9:8 and its `data` in bits 7:0. -/
def Statement (i : Instr) : Prop := opField (encode i) = i.op ∧ dataField (encode i) = i.data

/-- The fields of a word put together from two fields. -/
theorem fields_of_append (o : BitVec 2) (d : Byte) : opField (o ++ d) = o ∧ dataField (o ++ d) = d := by
  constructor
  · unfold opField
    ext k hk
    simp only [BitVec.getElem_extractLsb', BitVec.getLsbD_append]
    have : ¬ (8 + k < 8) := by omega
    simp [this, hk]
  · unfold dataField
    ext k hk
    simp only [BitVec.getElem_extractLsb', BitVec.getLsbD_append, Nat.zero_add]
    simp [hk]

theorem init : Statement .init := fields_of_append _ _
theorem reset : Statement .reset := fields_of_append _ _
theorem abort : Statement .abort := fields_of_append _ _
theorem recvSticky (b : Byte) : Statement (.recvSticky b) := fields_of_append _ _
theorem recvSoh : Statement .recvSoh := fields_of_append _ _
theorem recvStx : Statement .recvStx := fields_of_append _ _
theorem recvEot : Statement .recvEot := fields_of_append _ _
theorem recvCan : Statement .recvCan := fields_of_append _ _
theorem recvUabortUpper : Statement .recvUabortUpper := fields_of_append _ _
theorem recvUabortLower : Statement .recvUabortLower := fields_of_append _ _
theorem recvHdrOther (b : Byte) : Statement (.recvHdrOther b) := fields_of_append _ _
theorem recvBody (b : Byte) : Statement (.recvBody b) := fields_of_append _ _
theorem recvBodyLast (b : Byte) : Statement (.recvBodyLast b) := fields_of_append _ _

end Sys2Proof.Laws.EncodeFields
end

