-- ==== Sys2Proof/Tests/Slice0.lean ====
section
/-! SUPPORT. Tests. The expected values are those of spec/95_test_vectors.md (its vector is named in each comment) or are
written out by hand from the encodings of spec/30_encoding.md. Each test is one step or one function call. -/

namespace Sys2Proof.Machine.Tests

/-- The next state of a result, if it is one. -/
def nextOf : Result → Option State
  | .next t => some t
  | .fault _ => none
  | .refused _ => none

/-- The fault of a result, if it is one. -/
def faultOfResult : Result → Option Fault
  | .next _ => none
  | .fault f => some f
  | .refused _ => none

/-- What the command of a result did at the ports. -/
def outsOf (r : Result) : Option (List PortEvent) := (nextOf r).map State.outs

/-- A block in the middle of a packet: these bytes have arrived. -/
def received (p : Count) (bs : List Byte) (s : State) : State :=
  { s with await := false, psize := p, cnt := BitVec.ofNat 11 bs.length, pbuf := Memory.writeAll [] 0 bs }

/-- ASCII text as bytes. -/
def text (t : List Char) : List Byte := t.map fun c => BitVec.ofNat 8 c.toNat

/-- The payload of V-E1's first packet. -/
def firstPayload : List Byte :=
  text ['f', 'i', 'l', 'e', '.', 'b', 'i', 'n'] ++ [0x00#8] ++ text ['1', '0', ' '] ++ List.replicate 116 0x00#8

/-- The payload `01 02 .. 80` of V-E1's data packet. -/
def dataPayload : List Byte := (List.range 128).map fun i => BitVec.ofNat 8 (i + 1)

/-- The first packet of V-E1 but for its last byte, the sink's answer given. -/
def firstPacketPending (answer : Bool) : State :=
  received 128#11 ([0x01#8, 0x00#8, 0xFF#8] ++ firstPayload ++ [0x00#8])
    { State.reset with sinkAnswers := [answer] }

/-- The data packet of V-E1 but for its last byte, `EXP_SEQ = 1`. -/
def dataPacketPending (seq cseq : Byte) (answer : Bool) : State :=
  received 128#11 ([0x01#8, seq, cseq] ++ dataPayload ++ [0xE7#8])
    { State.reset with sinkAnswers := [answer], expSeq := 0x01#8 }

/-- A block with these bytes of a short first packet, all but the last, the sink's answer given. -/
def payloadPending (payload : List Byte) (hi : Byte) : State :=
  received 128#11 ([0x01#8, 0x00#8, 0xFF#8] ++ payload ++ [hi]) { State.reset with sinkAnswers := [true] }

/-! ### Well-formedness: each check refuses an ill-formed term -/

theorem test_wf_hdrOther_soh : (Instr.recvHdrOther 0x01#8).wf = false := by decide
theorem test_wf_hdrOther_stx : (Instr.recvHdrOther 0x02#8).wf = false := by decide
theorem test_wf_hdrOther_eot : (Instr.recvHdrOther 0x04#8).wf = false := by decide
theorem test_wf_hdrOther_can : (Instr.recvHdrOther 0x18#8).wf = false := by decide
theorem test_wf_hdrOther_upperA : (Instr.recvHdrOther 0x41#8).wf = false := by decide
theorem test_wf_hdrOther_lowerA : (Instr.recvHdrOther 0x61#8).wf = false := by decide
theorem test_wf_hdrOther_c : (Instr.recvHdrOther 0x43#8).wf = true := by decide

/-! ### Decoding: words written out from 30_encoding.md R70, R71, R75 (op, then data) -/

theorem test_decode_init : decode .uninitialized 0b01_00000000#10 = .ok .init := by decide
theorem test_decode_reset : decode .sticky 0b10_00000000#10 = .ok .reset := by decide
theorem test_decode_abort : decode .body 0b11_00000000#10 = .ok .abort := by decide
theorem test_decode_sticky : decode .sticky 0b00_00000001#10 = .ok (.recvSticky 0x01#8) := by decide
theorem test_decode_soh : decode .header 0b00_00000001#10 = .ok .recvSoh := by decide
theorem test_decode_stx : decode .header 0b00_00000010#10 = .ok .recvStx := by decide
theorem test_decode_eot : decode .header 0b00_00000100#10 = .ok .recvEot := by decide
theorem test_decode_can : decode .header 0b00_00011000#10 = .ok .recvCan := by decide
theorem test_decode_upperA : decode .header 0b00_01000001#10 = .ok .recvUabortUpper := by decide
theorem test_decode_lowerA : decode .header 0b00_01100001#10 = .ok .recvUabortLower := by decide
theorem test_decode_other : decode .header 0b00_01000011#10 = .ok (.recvHdrOther 0x43#8) := by decide
theorem test_decode_body : decode .body 0b00_00011000#10 = .ok (.recvBody 0x18#8) := by decide
theorem test_decode_bodyLast : decode .bodyLast 0b00_00000100#10 = .ok (.recvBodyLast 0x04#8) := by decide
/-- V-X6: word 0x105. -/
theorem test_decode_reserved : decode .header 0b01_00000101#10 = .error .reservedData := by decide
theorem test_decode_wide : decodeTableWord 16 0x400 = none := by decide
theorem test_decode_table_abort : decodeTableWord 16 0x300 = some .abort := by decide

/-! ### Checksum: V-C1, V-C4, V-C13, V-C20, V-C21 -/

theorem test_crc_check : crc16 (text ['1', '2', '3', '4', '5', '6', '7', '8', '9']) = 0x31C3#16 := by decide +kernel
theorem test_crc_one : crc16 [0x01#8] = 0x1021#16 := by decide +kernel
theorem test_crc_ff : crc16 (List.replicate 128 0xFF#8) = 0xEDA9#16 := by decide +kernel
theorem test_crc_first : crc16 firstPayload = 0x0042#16 := by decide +kernel
theorem test_crc_data : crc16 dataPayload = 0xE7AE#16 := by decide +kernel

/-! ### Decimal parser: V-D1, V-D2, V-D4, V-D9, V-D14 -/

theorem test_dec_1024 : decParse (text ['1', '0', '2', '4']) = some 1024#32 := by decide
theorem test_dec_12a : decParse (text ['1', '2', 'a']) = none := by decide
theorem test_dec_empty : decParse [] = some 0#32 := by decide
theorem test_dec_wrap : decParse (List.replicate 10 0x39#8) = some 1410065407#32 := by decide +kernel
theorem test_dec_long : decParse (List.replicate 10 0x30#8 ++ [0x31#8]) = none := by decide

/-! ### Entry points -/

/-- V-X1. -/
theorem test_init_first :
    outsOf (exec .init { State.reset with initDone := false, expSeq := 7#8, prev := 0x18#8 }) = some [.status .ok] ∧
    (nextOf (exec .init { State.reset with initDone := false, expSeq := 7#8, prev := 0x18#8 })).map
      (fun t => (t.initDone, t.expSeq, t.prev)) = some (true, 0#8, 0x00#8) := by decide
/-- V-X2. -/
theorem test_init_again :
    (nextOf (exec .init (received 128#11 [0x01#8] State.reset))).map (fun t => (t.await, t.cnt)) =
      some (false, 1#11) := by decide
/-- V-X4. -/
theorem test_reset_uninitialized :
    (nextOf (exec .reset { State.reset with initDone := false })).map (fun t => (t.faultMark, t.outs)) =
      some (some .notInitialized, []) := by decide
/-- V-X14, V-X16. -/
theorem test_reset_clears :
    (nextOf (exec .reset { State.reset with term := .complete, prev := 0x18#8, psize := 128#11 })).map
      (fun t => (t.term, t.prev, t.psize, t.outs)) = some (.nominal, 0x00#8, 0#11, [.status .ok]) := by decide
/-- V-X13. -/
theorem test_abort_sticky :
    (nextOf (exec .abort { State.reset with term := .complete })).map (fun t => (t.term, t.olen, t.outs)) =
      some (.aborted, 0, [.transmit [0x18#8, 0x18#8], .status .aborted]) := by decide
/-- V-X15. -/
theorem test_abort_midpacket :
    (nextOf (exec .abort (received 128#11 [0x01#8, 0x00#8] State.reset))).map (fun t => (t.term, t.await, t.cnt)) =
      some (.aborted, false, 2#11) := by decide

/-! ### RECV outside a packet -/

/-- V-X9, V-X11. -/
theorem test_sticky_complete :
    outsOf (exec (.recvSticky 0x01#8) { State.reset with term := .complete }) = some [.status .success] := by decide
theorem test_sticky_writeError :
    outsOf (exec (.recvSticky 0x18#8) { State.reset with term := .writeError }) = some [.status .writeErr] := by decide
/-- V-F1. -/
theorem test_soh :
    (nextOf (exec .recvSoh State.reset)).map (fun t => (t.await, t.cnt, t.psize, t.pbuf)) =
      some (false, 1#11, 128#11, [(0, 0x01#8)]) := by decide
/-- V-F2. -/
theorem test_stx :
    (nextOf (exec .recvStx State.reset)).map (fun t => (t.await, t.cnt, t.psize, t.pbuf)) =
      some (false, 1#11, 1024#11, [(0, 0x02#8)]) := by decide
/-- V-F3. -/
theorem test_eot :
    (nextOf (exec .recvEot State.reset)).map (fun t => (t.eotSeen, t.await, t.prev, t.outs)) =
      some (true, true, 0x04#8, [.transmit [0x06#8, 0x43#8], .status .rxComplete]) := by decide
/-- V-F4, V-F5. -/
theorem test_can_first :
    (nextOf (exec .recvCan State.reset)).map (fun t => (t.prev, t.term, t.outs)) =
      some (0x18#8, .nominal, [.status .ok]) := by decide
theorem test_can_second :
    (nextOf (exec .recvCan { State.reset with prev := 0x18#8 })).map (fun t => (t.term, t.outs)) =
      some (.aborted, [.notify .aborted, .transmit [0x43#8], .status .aborted]) := by decide
/-- V-F6, V-F7. -/
theorem test_uabort_upper :
    (nextOf (exec .recvUabortUpper State.reset)).map (fun t => (t.prev, t.term, t.outs)) =
      some (0x41#8, .aborted, [.transmit [0x18#8, 0x18#8], .status .abort]) := by decide
theorem test_uabort_lower :
    (nextOf (exec .recvUabortLower State.reset)).map (fun t => (t.prev, t.term, t.outs)) =
      some (0x61#8, .aborted, [.transmit [0x18#8, 0x18#8], .status .abort]) := by decide
/-- V-F9. -/
theorem test_hdr_other :
    (nextOf (exec (.recvHdrOther 0x43#8) State.reset)).map (fun t => (t.prev, t.term, t.outs)) =
      some (0x43#8, .nominal, [.transmit [0x15#8], .status .rxError]) := by decide

/-! ### RECV inside a packet -/

/-- V-F12: a cancel byte in a packet is data. -/
theorem test_body :
    (nextOf (exec (.recvBody 0x18#8) (received 128#11 [0x01#8, 0x18#8] State.reset))).map
      (fun t => (t.cnt, t.pbuf.read 2, t.term, t.prev, t.outs)) =
      some (3#11, 0x18#8, .nominal, 0x18#8, [.status .ok]) := by decide
/-- V-M1, V-E1 step 2. -/
theorem test_first_packet_accepted :
    (nextOf (exec (.recvBodyLast 0x42#8) (firstPacketPending true))).map (fun t => (t.expSeq, t.fsize, t.outs)) =
      some (1#8, 10#32, [.notify (.name (text ['f', 'i', 'l', 'e', '.', 'b', 'i', 'n']) 10#32),
        .transmit [0x06#8, 0x43#8], .status .startRx]) := by decide +kernel
/-- V-M13. -/
theorem test_first_packet_rejected :
    (nextOf (exec (.recvBodyLast 0x42#8) (firstPacketPending false))).map
      (fun t => (t.expSeq, t.fsize, t.term, t.fname.slice 0 9)) =
      some (0#8, 10#32, .sizeError, text ['f', 'i', 'l', 'e', '.', 'b', 'i', 'n'] ++ [0x00#8]) := by decide +kernel
/-- V-V5: what a good data packet leaves. -/
theorem test_data_packet :
    (nextOf (exec (.recvBodyLast 0xAE#8) (dataPacketPending 0x01#8 0xFE#8 true))).map
      (fun t => (t.expSeq, t.await, t.cnt, t.prev, t.outs)) =
      some (2#8, true, 0#11, 0xAE#8, [.notify (.data 128 dataPayload), .transmit [0x06#8], .status .rxOk]) := by
  decide +kernel
/-- V-M14. -/
theorem test_data_packet_failed :
    (nextOf (exec (.recvBodyLast 0xAE#8) (dataPacketPending 0x01#8 0xFE#8 false))).map
      (fun t => (t.expSeq, t.term, t.outs)) =
      some (1#8, .writeError, [.notify (.data 128 dataPayload), .transmit [0x18#8, 0x18#8], .status .writeErr]) := by
  decide +kernel
/-- V-V1, V-V2, V-V3. -/
theorem test_bad_complement :
    outsOf (exec (.recvBodyLast 0xAE#8) (dataPacketPending 0x01#8 0xFF#8 true)) =
      some [.transmit [0x15#8], .status .rxError] := by decide +kernel
theorem test_bad_sequence :
    outsOf (exec (.recvBodyLast 0xAE#8) (dataPacketPending 0x02#8 0xFD#8 true)) =
      some [.transmit [0x15#8], .status .rxError] := by decide +kernel
theorem test_bad_crc :
    outsOf (exec (.recvBodyLast 0xAF#8) (dataPacketPending 0x01#8 0xFE#8 true)) =
      some [.transmit [0x15#8], .status .rxError] := by decide +kernel
/-- V-V8: after EOT neither the sequence nor the checksum is looked at. -/
theorem test_closing_packet :
    (nextOf (exec (.recvBodyLast 0x00#8)
      { dataPacketPending 0x05#8 0xFA#8 true with eotSeen := true })).map (fun t => (t.term, t.outs)) =
      some (.complete, [.notify .sessionEnd, .transmit [0x06#8], .status .success]) := by decide +kernel
/-- V-M2. -/
theorem test_batch_end :
    (nextOf (exec (.recvBodyLast 0x00#8) (payloadPending (List.replicate 128 0x00#8) 0x00#8))).map
      (fun t => (t.term, t.outs)) =
      some (.aborted, [.transmit [0x18#8, 0x18#8], .status .abort]) := by decide +kernel
/-- V-M9 (V-C23: the checksum of `41 * 128` is 0x1CCE). -/
theorem test_malformed_name :
    (nextOf (exec (.recvBodyLast 0xCE#8) (payloadPending (List.replicate 128 0x41#8) 0x1C#8))).map
      (fun t => (t.term, t.outs)) =
      some (.sizeError, [.transmit [0x18#8, 0x18#8], .status .sizeErr]) := by decide +kernel

/-! ### Metadata scans: V-M3, V-M6, V-M7, V-M8, V-M12 -/

/-- The name "file.bin" and this text after its terminator. -/
def named (after : List Byte) : List Byte := text ['f', 'i', 'l', 'e', '.', 'b', 'i', 'n'] ++ [0x00#8] ++ after

theorem test_meta_no_space : parseMetadata 16 (named (text ['1', '0'] ++ List.replicate 117 0x00#8)) = none := by
  decide +kernel
theorem test_meta_empty_size :
    (parseMetadata 16 (named [0x20#8, 0x00#8])).map (·.size) = some 0#32 := by decide +kernel
theorem test_meta_name_too_long : parseMetadata 4 (named (text ['1', '0', ' '])) = none := by decide +kernel
theorem test_meta_name_fits :
    (parseMetadata 9 (named (text ['1', '0', ' ']))).map (·.name) =
      some (text ['f', 'i', 'l', 'e', '.', 'b', 'i', 'n']) := by decide +kernel
theorem test_meta_nul_before_space :
    parseMetadata 16 ([0x66#8, 0x00#8, 0x35#8, 0x00#8, 0x20#8]) = none := by decide +kernel

/-! ### The step -/

/-- V-X3, V-X6, V-X17: the mark is set and nothing comes out. -/
theorem test_step_not_initialized :
    (nextOf (step ({ State.reset with initDone := false }.withFetchWord 16 0x001))).map (·.faultMark) =
      some (some .notInitialized) := by decide
theorem test_step_reserved :
    (nextOf (step ({ State.reset with initDone := false }.withFetchWord 16 0x105))).map (·.faultMark) =
      some (some .reservedCommand) := by decide
theorem test_step_reentrant :
    (nextOf (step { State.reset with commands := [{ word := 0x200#10, overlaps := true }] })).map (·.faultMark) =
      some (some .reentrant) := by decide
/-- V-X8. -/
theorem test_step_marked :
    faultOfResult (step ({ State.reset with faultMark := some .reentrant }.withFetchWord 16 0x200)) =
      some .reentrant := by decide
theorem test_step_runs_the_word :
    outsOf (step (State.reset.withFetchWord 16 0x004)) =
      some [.transmit [0x06#8, 0x43#8], .status .rxComplete] := by decide
theorem test_reset_phase : State.reset.phase = .header := by decide

/-! ### Witnesses: for each statement with hypotheses, states and operands that meet them all. `witness_<Name>` is
for `Obligations.<Name>`; where a statement has several clauses there is a state for each. -/

/-- A next state with a given value of one of its parts. -/
theorem next_of_map {α : Type} (f : State → α) (r : Result) (v : α) (h : (nextOf r).map f = some v) :
    ∃ t, r = .next t ∧ f t = v := by
  cases r with
  | next t => exact ⟨t, rfl, by simpa [nextOf] using h⟩
  | fault f => simp [nextOf] at h
  | refused r => simp [nextOf] at h

theorem witness_DecodeOfEncodeGivesInstr :
    (Instr.recvHdrOther 0x00#8).wf = true ∧ (Instr.recvHdrOther 0x00#8).selectedIn .header = true ∧
    (Instr.recvBodyLast 0xFF#8).wf = true ∧ (Instr.recvBodyLast 0xFF#8).selectedIn .bodyLast = true := by decide
theorem witness_EncodeOfDecodeGivesWord :
    decode .header 0x000#10 = .ok (.recvHdrOther 0x00#8) ∧ decode .uninitialized 0x300#10 = .ok .abort := by decide
theorem witness_StepRunsDecodedInstruction :
    State.reset.faultMark = none ∧ (request 0x0FF#10).overlaps = false ∧
    (issue 0x0FF#10 State.reset).commands = request 0x0FF#10 :: [] ∧
    decode (issue 0x0FF#10 State.reset).phase 0x0FF#10 = .ok (.recvHdrOther 0xFF#8) := by decide
theorem witness_FetchWordIsTheNextCommand :
    (0x300 < 1024) ∧ State.reset.faultMark = none ∧ decodeBits State.reset.phase 0x300 = .ok .abort := by decide
theorem witness_IdleBlockHoldsItsState : State.reset.faultMark = none ∧ State.reset.commands = [] := by decide
theorem witness_FaultMarkIsForGood :
    ({ State.reset with faultMark := some .reentrant } : State).faultMark = some .reentrant := by decide

/-- A block at power-on with a command at its port. -/
def poweredOn (w : CmdWord) : State := { State.reset with initDone := false, commands := [request w] }

theorem witness_CommandBeforeInitFaults :
    (poweredOn 0x0FF#10).AtPowerOn ∧ Instr.recvBody 0x00#8 ≠ .init ∧
    (poweredOn 0x0FF#10).commands = request 0x0FF#10 :: [] ∧ opField 0x0FF#10 = 0b00#2 ∧
    (poweredOn resetWord).commands = request resetWord :: [] ∧
    (poweredOn abortWord).commands = request abortWord :: [] :=
  ⟨⟨rfl, rfl⟩, by decide, rfl, by decide, rfl, rfl⟩
theorem witness_FirstInitClears : (poweredOn initWord).AtPowerOn := ⟨rfl, rfl⟩
theorem witness_OverlappingCommandFaults :
    ({ State.reset with commands := [⟨0x3FF#10, true⟩] } : State).commands = ⟨0x3FF#10, true⟩ :: [] ∧
    State.reset.faultMark = none ∧ (⟨0x3FF#10, true⟩ : Request).overlaps = true := by decide
theorem witness_ReservedWordFaults :
    (issue 0x3FF#10 State.reset).commands = request 0x3FF#10 :: [] ∧ opField 0x3FF#10 ≠ 0b00#2 ∧
    dataField 0x3FF#10 ≠ 0x00#8 ∧ opField 0x101#10 ≠ 0b00#2 ∧ dataField 0x101#10 ≠ 0x00#8 ∧
    State.reset.faultMark = none := by decide
theorem witness_IndexOutsidePacketBufferFaults :
    State.Accumulating { State.reset with await := false, psize := 1026#11, cnt := 1029#11 } ∧
    State.Accumulating { State.reset with await := false, psize := 1025#11, cnt := 1029#11 } ∧
    1029 ≤ (1029#11).toNat ∧ (1029#11).toNat < (1026#11).toNat + 4 ∧ (1025#11).toNat + 4 ≤ (1029#11).toNat :=
  ⟨⟨rfl, rfl, rfl, rfl⟩, ⟨rfl, rfl, rfl, rfl⟩, by decide, by decide, by decide⟩

theorem witness_LaterInitChangesNothing : State.reset.faultMark = none ∧ State.reset.initDone = true := by decide
theorem witness_ResetClears :
    (received 128#11 [0x01#8] { State.reset with prev := 0x18#8 }).faultMark = none ∧
    (received 128#11 [0x01#8] { State.reset with prev := 0x18#8 }).initDone = true := by decide
theorem witness_ClearedBlockIsFresh :
    (∃ t, exec .init (poweredOn initWord) = .next t) ∧ (poweredOn initWord).initDone = false ∧
    (∃ t, exec .reset State.reset = .next t) ∧ State.reset.initDone = true ∧ State.reset.faultMark = none :=
  ⟨⟨_, rfl⟩, rfl, ⟨_, rfl⟩, rfl, rfl⟩
theorem witness_AbortForcesAborted :
    ({ State.reset with term := .complete } : State).faultMark = none ∧
    ({ State.reset with term := .complete } : State).initDone = true := by decide
theorem witness_StickyRecvReturnsItsCode (t : Term) (h : t ≠ .nominal) :
    State.Terminated { State.reset with term := t } := ⟨rfl, rfl, h⟩
theorem witness_TerminatedBlockIgnoresEveryByte :
    State.Terminated { State.reset with term := .sizeError, commands := bytesCommands [0x18#8, 0x18#8] } ∧
    bytesCommands [0x18#8, 0x18#8] = bytesCommands [0x18#8, 0x18#8] ++ [] ∧ [0x18#8, 0x18#8] ≠ [] :=
  ⟨⟨rfl, rfl, by decide⟩, by decide, by decide⟩

theorem reset_awaitingHeader : State.reset.AwaitingHeader := ⟨rfl, rfl, rfl, rfl⟩
theorem witness_LeadingByteStartsPacket : State.reset.AwaitingHeader := reset_awaitingHeader
theorem witness_EotIsMarkedAndAcknowledged :
    State.reset.AwaitingHeader ∧ State.AwaitingHeader { State.reset with eotSeen := true } :=
  ⟨reset_awaitingHeader, rfl, rfl, rfl, rfl⟩
theorem witness_CancelNeedsConfirmation :
    (State.AwaitingHeader { State.reset with prev := 0x18#8 } ∧
      ({ State.reset with prev := 0x18#8 } : State).prev = 0x18#8) ∧
    (State.reset.AwaitingHeader ∧ State.reset.prev ≠ 0x18#8) :=
  ⟨⟨⟨rfl, rfl, rfl, rfl⟩, rfl⟩, reset_awaitingHeader, by decide⟩
theorem witness_UserAbortByteAborts : State.reset.AwaitingHeader := reset_awaitingHeader
theorem witness_UnrecognizedByteIsAnsweredNak :
    State.reset.AwaitingHeader ∧ 0x00#8 ∉ [0x01#8, 0x02#8, 0x04#8, 0x18#8, 0x41#8, 0x61#8] ∧
    0x03#8 ∉ [0x01#8, 0x02#8, 0x04#8, 0x18#8, 0x41#8, 0x61#8] :=
  ⟨reset_awaitingHeader, by decide, by decide⟩
theorem witness_HeaderRowsFrame :
    State.reset.AwaitingHeader ∧
    (∀ i ∈ [Instr.recvSoh, .recvStx, .recvEot, .recvCan, .recvUabortUpper, .recvUabortLower, .recvHdrOther 0x03#8],
      i.selectedIn .header = true ∧ i ≠ .init ∧ i ≠ .reset ∧ i ≠ .abort ∧ (nextOf (exec i State.reset)).isSome) :=
  ⟨reset_awaitingHeader, by decide⟩

/-! Packets: the states that `received` builds meet the invariant. -/

theorem received_accumulating (p : Count) (bs : List Byte) (s : State) (h : s.AwaitingHeader) :
    (received p bs s).Accumulating := ⟨h.noFault, h.initDone, h.nominal, rfl⟩

theorem received_inv (p : Count) (bs : List Byte) (s : State) (h : s.Inv) (hi : s.initDone = true)
    (hp : legalLength p = true) (hb : Memory.wf Config.pbufCap (Memory.writeAll [] 0 bs) = true)
    (h1 : 1 ≤ (BitVec.ofNat 11 bs.length).toNat) (h2 : (BitVec.ofNat 11 bs.length).toNat ≤ p.toNat + 4) :
    (received p bs s).Inv where
  buffers := ⟨hb, h.buffers.fname, h.buffers.fsizeTxt, h.buffers.obuf⟩
  framer _ := ⟨fun h => (by cases h), fun _ => ⟨hp, h1, h2⟩, (h.framer hi).drained, .inr hp⟩

/-- A block in AwaitingHeader that expects this number, has these answers and these commands pending. -/
def waiting (seq : Byte) (answers : List Bool) (cmds : List Request) : State :=
  { State.reset with expSeq := seq, sinkAnswers := answers, commands := cmds }

theorem waiting_inv (seq : Byte) (answers : List Bool) (cmds : List Request) : (waiting seq answers cmds).Inv where
  buffers := ⟨rfl, rfl, rfl, rfl⟩
  framer _ := ⟨fun _ => rfl, fun h => (by cases h), rfl, .inl rfl⟩

theorem waiting_awaitingHeader (seq : Byte) (answers : List Bool) (cmds : List Request) :
    (waiting seq answers cmds).AwaitingHeader := ⟨rfl, rfl, rfl, rfl⟩

/-- A short packet of which all but the last byte has arrived, at a block that expects the number `expSeq`. -/
def pending (expSeq : Byte) (answers : List Bool) (cmds : List Request) (seq cseq : Byte) (payload : List Byte)
    (hi : Byte) : State :=
  received 128#11 ([0x01#8, seq, cseq] ++ payload ++ [hi]) (waiting expSeq answers cmds)

theorem pending_oneByteLeft (e : Byte) (as : List Bool) (cs : List Request) (seq cseq : Byte) (p : List Byte) (hi : Byte)
    (hl : (BitVec.ofNat 11 ([0x01#8, seq, cseq] ++ p ++ [hi]).length).toNat = 132)
    (hb : Memory.wf Config.pbufCap (Memory.writeAll [] 0 ([0x01#8, seq, cseq] ++ p ++ [hi])) = true) :
    (pending e as cs seq cseq p hi).OneByteLeft where
  accumulating := received_accumulating _ _ _ (waiting_awaitingHeader _ _ _)
  inv := received_inv _ _ _ (waiting_inv _ _ _) rfl rfl hb (by omega) (by rw [hl]; decide)
  last := hl

/-- V-E1's data packet but for its last byte. -/
def dataPending (cmds : List Request) (answer : Bool) : State :=
  pending 0x01#8 [answer] cmds 0x01#8 0xFE#8 dataPayload 0xE7#8

/-- V-E1's first packet but for its last byte. -/
def namePending (cmds : List Request) (answer : Bool) : State :=
  pending 0x00#8 [answer] cmds 0x00#8 0xFF#8 firstPayload 0x00#8

theorem dataPending_valid (cmds : List Request) (answer : Bool) :
    (dataPending cmds answer).CompletesValid 0xAE#8 dataPayload :=
  ⟨pending_oneByteLeft _ _ _ _ _ _ _ (by decide +kernel) (by decide +kernel),
    (by decide +kernel : dataPayload = (dataPending [] true).pbuf.slice 3 128),
    (by decide +kernel : (dataPending [] true).pbuf.read 2 = (dataPending [] true).pbuf.read 1 ^^^ 0xFF#8), rfl,
    (by decide +kernel : (dataPending [] true).pbuf.read 1 = 0x01#8),
    (by decide +kernel : crc16 dataPayload = (dataPending [] true).pbuf.read (128 + 3) ++ 0xAE#8)⟩

theorem namePending_valid (cmds : List Request) (answer : Bool) :
    (namePending cmds answer).CompletesValid 0x42#8 firstPayload :=
  ⟨pending_oneByteLeft _ _ _ _ _ _ _ (by decide +kernel) (by decide +kernel),
    (by decide +kernel : firstPayload = (namePending [] true).pbuf.slice 3 128),
    (by decide +kernel : (namePending [] true).pbuf.read 2 = (namePending [] true).pbuf.read 1 ^^^ 0xFF#8), rfl,
    (by decide +kernel : (namePending [] true).pbuf.read 1 = 0x00#8),
    (by decide +kernel : crc16 firstPayload = (namePending [] true).pbuf.read (128 + 3) ++ 0x42#8)⟩

theorem witness_BodyByteIsStored :
    (received 128#11 [0x01#8] State.reset).Accumulating ∧ (received 128#11 [0x01#8] State.reset).Inv ∧
    (received 128#11 [0x01#8] State.reset).cnt.toNat < (received 128#11 [0x01#8] State.reset).psize.toNat + 4 :=
  ⟨received_accumulating _ _ _ reset_awaitingHeader,
    received_inv _ _ _ (waiting_inv 0x00#8 [] []) rfl rfl rfl (by decide) (by decide), by decide⟩
theorem witness_LastByteReturnsToHeader :
    (dataPending [] true).Accumulating ∧
    (dataPending [] true).psize.toNat + 4 ≤ (dataPending [] true).cnt.toNat ∧
    (dataPending [] true).cnt.toNat < 1029 :=
  ⟨(dataPending_valid [] true).ready.accumulating, by decide +kernel, by decide +kernel⟩
theorem witness_BadComplementIsAnsweredNak :
    (pending 0x01#8 [] [] 0x01#8 0xFF#8 dataPayload 0xE7#8).OneByteLeft ∧
    (pending 0x01#8 [] [] 0x01#8 0xFF#8 dataPayload 0xE7#8).pbuf.read 2 ≠
      (pending 0x01#8 [] [] 0x01#8 0xFF#8 dataPayload 0xE7#8).pbuf.read 1 ^^^ 0xFF#8 :=
  ⟨pending_oneByteLeft _ _ _ _ _ _ _ (by decide +kernel) (by decide +kernel), by decide +kernel⟩
theorem oneByteLeft_afterEot (s : State) (h : s.OneByteLeft) : State.OneByteLeft { s with eotSeen := true } where
  accumulating := ⟨h.accumulating.noFault, h.accumulating.initDone, h.accumulating.nominal, h.accumulating.accumulating⟩
  inv := ⟨⟨h.inv.buffers.pbuf, h.inv.buffers.fname, h.inv.buffers.fsizeTxt, h.inv.buffers.obuf⟩, fun hi =>
    ⟨(h.inv.framer hi).awaiting, (h.inv.framer hi).assembling, (h.inv.framer hi).drained, (h.inv.framer hi).legalSize⟩⟩
  last := h.last
theorem witness_ClosingPacketCompletesSession :
    State.OneByteLeft { dataPending [] true with eotSeen := true } ∧
    (dataPending [] true).pbuf.read 2 = (dataPending [] true).pbuf.read 1 ^^^ 0xFF#8 :=
  ⟨oneByteLeft_afterEot _ (dataPending_valid [] true).ready, (dataPending_valid [] true).complement⟩
theorem witness_WrongSequenceIsAnsweredNak :
    (pending 0x02#8 [] [] 0x01#8 0xFE#8 dataPayload 0xE7#8).OneByteLeft ∧
    (pending 0x02#8 [] [] 0x01#8 0xFE#8 dataPayload 0xE7#8).pbuf.read 2 =
      (pending 0x02#8 [] [] 0x01#8 0xFE#8 dataPayload 0xE7#8).pbuf.read 1 ^^^ 0xFF#8 ∧
    (pending 0x02#8 [] [] 0x01#8 0xFE#8 dataPayload 0xE7#8).eotSeen = false ∧
    (pending 0x02#8 [] [] 0x01#8 0xFE#8 dataPayload 0xE7#8).pbuf.read 1 ≠ 0x02#8 :=
  ⟨pending_oneByteLeft _ _ _ _ _ _ _ (by decide +kernel) (by decide +kernel), by decide +kernel, rfl,
    by decide +kernel⟩
/-- The last byte is 0xAF where the checksum's is 0xAE. -/
theorem witness_WrongChecksumIsAnsweredNak :
    (dataPending [] true).OneByteLeft ∧ (dataPending [] true).eotSeen = false ∧
    (dataPending [] true).pbuf.read 2 = (dataPending [] true).pbuf.read 1 ^^^ 0xFF#8 ∧
    (dataPending [] true).pbuf.read 1 = (dataPending [] true).expSeq ∧
    crc16 ((dataPending [] true).pbuf.slice 3 128) ≠ (dataPending [] true).pbuf.read (128 + 3) ++ 0xAF#8 :=
  ⟨(dataPending_valid [] true).ready, rfl, (dataPending_valid [] true).complement,
    (dataPending_valid [] true).sequence, by decide +kernel⟩

/-- A first packet of zeros, and one of 'A's (V-C23), but for their last bytes. -/
def uniformPending (x hi : Byte) : State := pending 0x00#8 [] [] 0x00#8 0xFF#8 (List.replicate 128 x) hi

theorem witness_BatchEndMarkerAborts :
    (uniformPending 0x00#8 0x00#8).CompletesValid 0x00#8 (List.replicate 128 0x00#8) ∧
    (uniformPending 0x00#8 0x00#8).expSeq = 0x00#8 ∧ (List.replicate 128 0x00#8).head? = some 0x00#8 :=
  ⟨⟨pending_oneByteLeft _ _ _ _ _ _ _ (by decide +kernel) (by decide +kernel), by decide +kernel,
    by decide +kernel, rfl, by decide +kernel, by decide +kernel⟩, rfl, rfl⟩
theorem witness_MalformedMetadataIsSizeError :
    (uniformPending 0x41#8 0x1C#8).CompletesValid 0xCE#8 (List.replicate 128 0x41#8) ∧
    (uniformPending 0x41#8 0x1C#8).expSeq = 0x00#8 ∧ (List.replicate 128 0x41#8).head? ≠ some 0x00#8 ∧
    parseMetadata 16 (List.replicate 128 0x41#8) = none :=
  ⟨⟨pending_oneByteLeft _ _ _ _ _ _ _ (by decide +kernel) (by decide +kernel), by decide +kernel,
    by decide +kernel, rfl, by decide +kernel, by decide +kernel⟩, rfl, by decide, by decide +kernel⟩

/-- What V-E1's first packet says. -/
def firstMetadata : Metadata :=
  { name := text ['f', 'i', 'l', 'e', '.', 'b', 'i', 'n'], sizeText := text ['1', '0'], size := 10#32 }

theorem witness_AcceptedMetadataStartTransfer :
    (namePending [] true).CompletesValid 0x42#8 firstPayload ∧ (namePending [] true).expSeq = 0x00#8 ∧
    firstPayload.head? ≠ some 0x00#8 ∧ parseMetadata 16 firstPayload = some firstMetadata ∧
    sinkAnswer (namePending [] true) = true :=
  ⟨namePending_valid [] true, rfl, by decide, by decide +kernel, rfl⟩
theorem witness_RejectedMetadataIsSizeError :
    (namePending [] false).CompletesValid 0x42#8 firstPayload ∧ (namePending [] false).expSeq = 0x00#8 ∧
    firstPayload.head? ≠ some 0x00#8 ∧ parseMetadata 16 firstPayload = some firstMetadata ∧
    sinkAnswer (namePending [] false) = false :=
  ⟨namePending_valid [] false, rfl, by decide, by decide +kernel, rfl⟩
theorem witness_DataPacketIsDelivered :
    ((dataPending [] true).CompletesValid 0xAE#8 dataPayload ∧ sinkAnswer (dataPending [] true) = true) ∧
    ((dataPending [] false).CompletesValid 0xAE#8 dataPayload ∧ sinkAnswer (dataPending [] false) = false) ∧
    (dataPending [] true).expSeq ≠ 0x00#8 :=
  ⟨⟨dataPending_valid [] true, rfl⟩, ⟨dataPending_valid [] false, rfl⟩, by decide⟩

theorem witness_MetadataAreNameNulDigitsSpace : parseMetadata 16 firstPayload = some firstMetadata := by
  decide +kernel
/-- Ten digits, the empty string; eleven digits, a letter. -/
theorem witness_DecimalParserValue :
    ((List.replicate 10 0x39#8).length ≤ 10 ∧
      ∀ c ∈ List.replicate 10 0x39#8, 0x30 ≤ c.toNat ∧ c.toNat ≤ 0x39) ∧
    (([] : List Byte).length ≤ 10 ∧ ∀ c ∈ ([] : List Byte), 0x30 ≤ c.toNat ∧ c.toNat ≤ 0x39) ∧
    (¬ (List.replicate 11 0x39#8).length ≤ 10) ∧ ¬ (∀ c ∈ [0x61#8], 0x30 ≤ c.toNat ∧ c.toNat ≤ 0x39) := by
  decide +kernel
theorem witness_ChecksumDetectsOneByte : (0x00#8 : Byte) ≠ 0x80#8 := by decide

/-! Whole-machine rules: a step that changes what the rule is about. -/

theorem witness_StepKeepsInv :
    (waiting 0x00#8 [] (bytesCommands [0x01#8])).Inv ∧
    ∃ t, step (waiting 0x00#8 [] (bytesCommands [0x01#8])) = .next t ∧ t.cnt = 1#11 :=
  ⟨waiting_inv _ _ _, next_of_map _ _ _ (by decide)⟩
theorem witness_ProperHostNeverFaults :
    (waiting 0x00#8 [] (request 0x300#10 :: bytesCommands [0x18#8])).Inv ∧
    (waiting 0x00#8 [] (request 0x300#10 :: bytesCommands [0x18#8])).faultMark = none ∧
    (waiting 0x00#8 [] (request 0x300#10 :: bytesCommands [0x18#8])).initDone = true ∧
    (∀ r ∈ request 0x300#10 :: bytesCommands [0x18#8], r.proper = true) :=
  ⟨waiting_inv _ _ _, rfl, rfl, by decide⟩
theorem witness_ConfigurationAndInitDone :
    (∃ t, step (poweredOn initWord) = .next t ∧ t.initDone = true) ∧ (poweredOn initWord).initDone = false :=
  ⟨next_of_map _ _ _ (by decide), rfl⟩
/-- RESET; an accepted first packet; a delivered data packet (whose states meet the invariant whatever commands are
pending: `namePending_valid`, `dataPending_valid`). -/
theorem witness_OnlyAcceptedPacketsMoveExpSeq :
    (waiting 0x07#8 [] [request resetWord]).Inv ∧
    (∃ t, step (waiting 0x07#8 [] [request resetWord]) = .next t ∧ t.expSeq = 0x00#8) ∧
    (namePending (bytesCommands [0x42#8]) true).Inv ∧
    (∃ t, step (namePending (bytesCommands [0x42#8]) true) = .next t ∧ t.expSeq = 0x01#8) ∧
    (dataPending (bytesCommands [0xAE#8]) true).Inv ∧
    (∃ t, step (dataPending (bytesCommands [0xAE#8]) true) = .next t ∧ t.expSeq = 0x02#8) :=
  ⟨waiting_inv _ _ _, next_of_map _ _ _ (by decide), (namePending_valid _ _).ready.inv,
    next_of_map _ _ _ (by decide +kernel), (dataPending_valid _ _).ready.inv, next_of_map _ _ _ (by decide +kernel)⟩
theorem witness_OnlyEotByteSetsEotSeen :
    (∃ t, step (waiting 0x00#8 [] (bytesCommands [0x04#8])) = .next t ∧ t.eotSeen = true) ∧
    (∃ t, step { waiting 0x00#8 [] [request resetWord] with eotSeen := true } = .next t ∧ t.eotSeen = false) ∧
    (∃ t, step { poweredOn initWord with eotSeen := true } = .next t ∧ t.eotSeen = false) :=
  ⟨next_of_map _ _ _ (by decide), next_of_map _ _ _ (by decide), next_of_map _ _ _ (by decide)⟩
theorem witness_OnlyTheseWriteTerm :
    (∃ t, step (waiting 0x00#8 [] [request abortWord]) = .next t ∧ t.term = .aborted) ∧
    (∃ t, step { waiting 0x00#8 [] [request resetWord] with term := .complete } = .next t ∧ t.term = .nominal) ∧
    (∃ t, step (namePending (bytesCommands [0x42#8]) false) = .next t ∧ t.term = .sizeError) ∧
    (∃ t, step (dataPending (bytesCommands [0xAE#8]) false) = .next t ∧ t.term = .writeError) ∧
    (∃ t, step { dataPending (bytesCommands [0xAE#8]) true with eotSeen := true } = .next t ∧ t.term = .complete) :=
  ⟨next_of_map _ _ _ (by decide), next_of_map _ _ _ (by decide), next_of_map _ _ _ (by decide +kernel),
    next_of_map _ _ _ (by decide +kernel), next_of_map _ _ _ (by decide +kernel)⟩
theorem witness_ProcessedByteBecomesPrev :
    (waiting 0x00#8 [] (bytesCommands [0x43#8])).commands = request 0x043#10 :: [] ∧
    (waiting 0x00#8 [] (bytesCommands [0x43#8])).initDone = true ∧
    (waiting 0x00#8 [] (bytesCommands [0x43#8])).Inv ∧ opField 0x043#10 = 0b00#2 ∧
    (∃ t, step (waiting 0x00#8 [] (bytesCommands [0x43#8])) = .next t ∧ t.prev = 0x43#8) ∧
    (∃ t, step { waiting 0x00#8 [] (bytesCommands [0x43#8]) with term := .complete } = .next t ∧ t.prev = 0x00#8) :=
  ⟨rfl, rfl, waiting_inv _ _ _, by decide, next_of_map _ _ _ (by decide), next_of_map _ _ _ (by decide)⟩
theorem witness_EffectsComeInOrder :
    (waiting 0x00#8 [] (bytesCommands [0x04#8])).commands ≠ [] ∧
    ∃ t, step (waiting 0x00#8 [] (bytesCommands [0x04#8])) = .next t ∧ t.faultMark = none :=
  ⟨by decide, next_of_map _ _ _ (by decide)⟩
theorem witness_ResponseTable :
    State.reset.faultMark = none ∧ State.reset.initDone = true ∧ opField (encode .recvEot) = 0b00#2 ∧
    (∀ b, Instr.recvEot ≠ .recvSticky b) ∧ ∃ t, exec .recvEot State.reset = .next t ∧ t.faultMark = none :=
  ⟨rfl, rfl, by decide, fun b h => (by cases h), next_of_map _ _ _ (by decide)⟩
theorem witness_ReceiveErrorsAreRecoverable :
    (waiting 0x00#8 [] (bytesCommands [0x43#8])).commands ≠ [] ∧
    ∃ t, step (waiting 0x00#8 [] (bytesCommands [0x43#8])) = .next t ∧
      decide (PortEvent.status .rxError ∈ t.outs) = true :=
  ⟨by decide, next_of_map _ _ _ (by decide)⟩

/-- The bytes of a short packet after the first, but for the last. -/
theorem witness_AssemblyStoresEveryByte :
    (received 128#11 [0x01#8] (waiting 0x01#8 [] (bytesCommands (List.replicate 131 0x18#8)))).Accumulating ∧
    (received 128#11 [0x01#8] (waiting 0x01#8 [] (bytesCommands (List.replicate 131 0x18#8)))).Inv ∧
    (1#11).toNat + (List.replicate 131 0x18#8).length ≤ (128#11).toNat + 4 ∧ List.replicate 131 0x18#8 ≠ [] ∧
    bytesCommands (List.replicate 131 0x18#8) = bytesCommands (List.replicate 131 0x18#8) ++ [] :=
  ⟨received_accumulating _ _ _ (waiting_awaitingHeader _ _ _),
    received_inv _ _ _ (waiting_inv _ _ _) rfl rfl rfl (by decide) (by decide), by decide +kernel, by decide +kernel,
    (List.append_nil _).symm⟩
theorem witness_WholeDataPacketIsDelivered :
    (waiting 0x01#8 [true] (bytesCommands (pkt 0x01#8 (List.replicate 1024 0x1A#8)))).AwaitingHeader ∧
    (waiting 0x01#8 [true] (bytesCommands (pkt 0x01#8 (List.replicate 1024 0x1A#8)))).Inv ∧
    (List.replicate 1024 0x1A#8).length = 1024 ∧ dataPayload.length = 128 ∧
    (waiting 0x01#8 [true] []).eotSeen = false ∧ (waiting 0x01#8 [true] []).expSeq ≠ 0x00#8 ∧
    sinkAnswer (waiting 0x01#8 [true] (bytesCommands (pkt 0x01#8 (List.replicate 1024 0x1A#8)))) = true ∧
    (waiting 0x01#8 [true] (bytesCommands (pkt 0x01#8 (List.replicate 1024 0x1A#8)))).commands =
      bytesCommands (pkt 0x01#8 (List.replicate 1024 0x1A#8)) ++ [] :=
  ⟨waiting_awaitingHeader _ _ _, waiting_inv _ _ _, List.length_replicate, by decide +kernel, rfl, by decide, rfl,
    (List.append_nil _).symm⟩
theorem witness_RetransmissionIsNotDelivered :
    (waiting 0x02#8 [] (bytesCommands (pkt (0x02#8 - 0x01#8) dataPayload))).AwaitingHeader ∧
    (waiting 0x02#8 [] (bytesCommands (pkt (0x02#8 - 0x01#8) dataPayload))).Inv ∧ dataPayload.length = 128 ∧
    (waiting 0x02#8 [] []).eotSeen = false ∧
    (waiting 0x02#8 [] (bytesCommands (pkt (0x02#8 - 0x01#8) dataPayload))).commands =
      bytesCommands (pkt (0x02#8 - 0x01#8) dataPayload) ++ [] :=
  ⟨waiting_awaitingHeader _ _ _, waiting_inv _ _ _, by decide +kernel, rfl, (List.append_nil _).symm⟩

/-- A long packet of zeros whose first byte arrives as 0x80. -/
def corrupted : List Request :=
  bytesCommands (pktRaw 0x02#8 0x01#8 0xFE#8 ([] ++ [0x80#8] ++ List.replicate 1023 0x00#8)
    (crc16 ([] ++ [0x00#8] ++ List.replicate 1023 0x00#8)))

theorem witness_OneCorruptedByteIsAnsweredNak :
    (waiting 0x01#8 [] corrupted).AwaitingHeader ∧ (waiting 0x01#8 [] corrupted).Inv ∧
    ([] : List Byte).length + (List.replicate 1023 0x00#8).length = 1023 ∧
    (waiting 0x01#8 [] corrupted).eotSeen = false ∧ (0x00#8 : Byte) ≠ 0x80#8 ∧
    (waiting 0x01#8 [] corrupted).commands = corrupted ++ [] ∧ leadFor (0 + 1023 + 1) = 0x02#8 :=
  ⟨waiting_awaitingHeader _ _ _, waiting_inv _ _ _, (by decide +kernel), rfl, by decide, (List.append_nil _).symm, by decide⟩
theorem witness_CanonicalBuffersAreEqualByContents :
    Memory.wf 2 [(0, 0x18#8), (1, 0x18#8)] = true ∧ Memory.wf 2 (Memory.writeAll [] 0 [0x18#8, 0x18#8]) = true ∧
    ∀ j, Memory.read [(0, 0x18#8), (1, 0x18#8)] j = (Memory.writeAll [] 0 [0x18#8, 0x18#8]).read j :=
  ⟨by decide, by decide, fun _ => rfl⟩

end Sys2Proof.Machine.Tests
end

section
/-! PROOFS. The state: the invariant of 10_state.md R33, the frame of the header rows, and the rules of the single
registers (R22, R26, R27, R34). Each starts from `StepNext` or `ExecNext`, which say once what a step and a command
can do. -/

namespace Sys2Proof.Machine

/-! ### What one step can do -/

/-- Everything `step` can answer with a next state, one case per way. -/
inductive StepNext (s : State) : State → Prop
  | idle (hc : s.commands = []) : StepNext s s
  | faulted (r : Request) (rest : List Request) (f : Fault) (hc : s.commands = r :: rest)
      (hf : fetch r s = .error f) : StepNext s (takeFault f (takeCommand s))
  | ran (r : Request) (rest : List Request) (i : Instr) (t : State) (hc : s.commands = r :: rest)
      (ho : r.overlaps = false) (hd : decode s.phase r.word = .ok i) (hx : ExecNext (takeCommand s) i t) :
      StepNext s t

theorem step_stepNext (s t : State) (h : step s = .next t) : StepNext s t := by
  obtain ⟨-, ⟨hc, rfl⟩ | ⟨r, rest, f, hc, hf, rfl⟩ | ⟨r, rest, i, hc, hf, hx⟩⟩ := step_next s t h
  · exact .idle hc
  · exact .faulted r rest f hc hf
  · obtain ⟨ho, hd⟩ := fetch_ok r s i hf
    exact .ran r rest i t hc ho hd (exec_next _ _ _ hx).2

/-! ### Single fields of the completion's frame -/

@[simp] theorem completePacket_initDone (s : State) : (completePacket s).2.initDone = s.initDone :=
  (completePacket_frame s).1

@[simp] theorem completePacket_eotSeen (s : State) : (completePacket s).2.eotSeen = s.eotSeen := by
  obtain ⟨-, -, h, -⟩ := completePacket_frame s
  exact h

@[simp] theorem completePacket_olen (s : State) : (completePacket s).2.olen = s.olen := by
  obtain ⟨-, -, -, -, -, h, -⟩ := completePacket_frame s
  exact h

@[simp] theorem completePacket_params (s : State) : (completePacket s).2.params = s.params := by
  obtain ⟨-, -, -, -, -, -, -, h, -⟩ := completePacket_frame s
  exact h

/-! ### The invariant: what does not touch its fields, and what each shared operation makes of it -/

/-- The invariant does not look at `TERM`, `EOT_SEEN`, `EXP_SEQ`, `PREV`, `FSIZE`, the fault mark or the ports. -/
theorem State.Inv.of_others {s : State} (h : s.Inv) {tm : Term} {eot : Bool} {es pv : Byte} {fs : FileSize}
    {fm : Option Fault} {cs : List Request} {sa : List Bool} {dr : Nat} {os : List PortEvent} :
    State.Inv { s with
      term := tm, eotSeen := eot, expSeq := es, prev := pv, fsize := fs, faultMark := fm, commands := cs
      sinkAnswers := sa, draws := dr, outs := os } where
  buffers := ⟨h.buffers.pbuf, h.buffers.fname, h.buffers.fsizeTxt, h.buffers.obuf⟩
  framer hi :=
    have hf := h.framer hi
    ⟨hf.awaiting, hf.assembling, hf.drained, hf.legalSize⟩

theorem takeFault_inv (f : Fault) (s : State) (h : s.Inv) : (takeFault f s).Inv := h.of_others

theorem takeCommand_inv (s : State) (h : s.Inv) : (takeCommand s).Inv := h.of_others

theorem beginCommand_inv (s : State) (h : s.Inv) : (beginCommand s).Inv := h.of_others

theorem beginRecv_inv (s : State) (h : s.Inv) : (beginRecv s).Inv where
  buffers := ⟨h.buffers.pbuf, h.buffers.fname, h.buffers.fsizeTxt, h.buffers.obuf⟩
  framer hi :=
    have hf := h.framer hi
    ⟨hf.awaiting, hf.assembling, rfl, hf.legalSize⟩

/-- A reply of at most two bytes, written from offset 0, fits every outbound buffer (00_scope.md R8). -/
theorem reply_wf (s : State) (bs : List Byte) (hl : bs.length ≤ 2) (h : Memory.wf s.params.outCap.1 s.obuf = true) :
    Memory.wf s.params.outCap.1 (s.obuf.writeAll 0 bs) = true :=
  writeAll_wf _ _ _ _ (by have := s.params.outCap.2; omega) h

theorem replyOf_length_le (o : Status) : (replyOf o).length ≤ 2 := by
  cases o <;> decide

theorem finishRecv_inv (b : Byte) (o : Status) (s : State) (h : s.Inv) (h0 : s.olen = 0) :
    (finishRecv b o s).Inv where
  buffers :=
    { pbuf := h.buffers.pbuf
      fname := h.buffers.fname
      fsizeTxt := h.buffers.fsizeTxt
      obuf := by simpa [h0] using reply_wf s _ (replyOf_length_le o) h.buffers.obuf }
  framer hi :=
    have hf := h.framer hi
    ⟨hf.awaiting, hf.assembling, rfl, hf.legalSize⟩

/-- CLEAR leaves a block that meets the invariant whatever the registers held; `INIT_DONE` may be set with it. -/
theorem clear_inv (s : State) (h : s.Inv) (d : Bool) (os : List PortEvent) :
    State.Inv { clear s with initDone := d, outs := os } where
  buffers := ⟨rfl, rfl, rfl, h.buffers.obuf⟩
  framer _ := ⟨fun _ => rfl, nofun, rfl, .inl rfl⟩

/-- What ABORT leaves but for the status. -/
theorem abortReply_inv (s : State) (h : s.Inv) :
    (endCommand (setTerm .aborted (emit [Config.can, Config.can] (emptyReply s)))).Inv where
  buffers := ⟨h.buffers.pbuf, h.buffers.fname, h.buffers.fsizeTxt, reply_wf s _ (by simp) h.buffers.obuf⟩
  framer hi :=
    have hf := h.framer hi
    ⟨hf.awaiting, hf.assembling, rfl, hf.legalSize⟩

theorem legalLength_iff (p : Count) : legalLength p = true ↔ p = 128#11 ∨ p = 1024#11 := by
  simp [legalLength]

theorem startPacket_inv (b : Byte) (p : Nat) (s : State) (h : s.Inv) (hp : p = Config.pShort ∨ p = Config.pLong) :
    (startPacket b p s).Inv where
  buffers := ⟨write_wf _ _ _ _ (by decide) h.buffers.pbuf, h.buffers.fname, h.buffers.fsizeTxt, h.buffers.obuf⟩
  framer hi :=
    have hl : legalLength (BitVec.ofNat 11 p) = true := by
      obtain rfl | rfl := hp <;> decide
    { awaiting := nofun
      assembling := fun _ => ⟨hl, by simp, by simp⟩
      drained := (h.framer hi).drained
      legalSize := .inr hl }

theorem storeByte_inv (b : Byte) (s : State) (h : s.Inv) (hc : s.cnt.toNat < Config.pbufCap) :
    (storeByte b s).Inv where
  buffers := ⟨write_wf _ _ _ _ hc h.buffers.pbuf, h.buffers.fname, h.buffers.fsizeTxt, h.buffers.obuf⟩
  framer hi :=
    have hf := h.framer hi
    ⟨hf.awaiting, hf.assembling, hf.drained, hf.legalSize⟩

/-- A legal payload length is far below the range of `CNT`, so counting to it does not wrap. -/
theorem psize_toNat_le (p : Count) (h : legalLength p = true) : p.toNat ≤ 1024 := by
  obtain rfl | rfl := (legalLength_iff p).1 h <;> decide

theorem advance_inv (s : State) (h : s.Inv) (ha : s.await = false) (hc : s.cnt.toNat < s.psize.toNat + 4) :
    (advance s).Inv where
  buffers := ⟨h.buffers.pbuf, h.buffers.fname, h.buffers.fsizeTxt, h.buffers.obuf⟩
  framer hi :=
    have hf := h.framer hi
    { awaiting := fun hw => absurd (ha.symm.trans hw) (by decide)
      assembling := fun _ => by
        obtain ⟨hl, h1, -⟩ := hf.assembling ha
        have hp := psize_toNat_le s.psize hl
        have hn : (s.cnt + 1#11).toNat = s.cnt.toNat + 1 := by
          rw [BitVec.toNat_add, BitVec.toNat_ofNat]; omega
        exact ⟨hl, by rw [advance_cnt, hn]; omega, by rw [advance_cnt, advance_psize, hn]; omega⟩
      drained := hf.drained
      legalSize := hf.legalSize }

theorem storeMetadata_inv (d : Metadata) (s : State) (h : s.Inv) : (storeMetadata d s).Inv where
  buffers :=
    ⟨h.buffers.pbuf, writeAll_wf _ _ _ _ (by simp) h.buffers.fname, writeAll_wf _ _ _ _ (by simp) h.buffers.fsizeTxt,
      h.buffers.obuf⟩
  framer hi :=
    have hf := h.framer hi
    ⟨hf.awaiting, hf.assembling, hf.drained, hf.legalSize⟩

/-- The completion of a packet touches no field of the invariant but the metadata buffers. -/
theorem completePacket_inv (s : State) (h : s.Inv) : (completePacket s).2.Inv := by
  have hc := completePacket_completed s
  generalize completePacket s = r at hc
  cases hc with
  | rejected => exact h
  | closed => exact h.of_others
  | batchEnd => exact h
  | malformed => exact h
  | accepted _ _ d => exact (storeMetadata_inv d s h).of_others
  | refused _ _ d => exact (storeMetadata_inv d s h).of_others
  | delivered => exact h.of_others
  | failed => exact h.of_others

theorem clearPacket_inv (s : State) (h : s.Inv) : (clearPacket s).Inv where
  buffers := ⟨rfl, h.buffers.fname, h.buffers.fsizeTxt, h.buffers.obuf⟩
  framer hi :=
    have hf := h.framer hi
    ⟨fun _ => rfl, nofun, hf.drained, hf.legalSize⟩

/-- Every command keeps the invariant. -/
theorem execNext_inv (s t : State) (i : Instr) (h : s.Inv) (hx : ExecNext s i t) : t.Inv := by
  have hb := beginRecv_inv s h
  cases hx with
  | uninitialized => exact takeFault_inv _ s h
  | outside => exact takeFault_inv _ s h
  | firstInit => exact clear_inv _ (beginCommand_inv s h) _ _
  | laterInit => exact h.of_others
  | reset => exact clear_inv _ (beginCommand_inv s h) _ _
  | abort => exact (abortReply_inv _ (beginCommand_inv s h)).of_others
  | sticky => exact hb.of_others
  | soh => exact finishRecv_inv _ _ _ (startPacket_inv _ _ _ hb (.inl rfl)) rfl
  | stx => exact finishRecv_inv _ _ _ (startPacket_inv _ _ _ hb (.inr rfl)) rfl
  | eot => exact finishRecv_inv _ _ _ hb.of_others rfl
  | firstCan => exact finishRecv_inv _ _ _ hb rfl
  | secondCan => exact finishRecv_inv _ _ _ hb.of_others rfl
  | upper => exact finishRecv_inv _ _ _ hb rfl
  | lower => exact finishRecv_inv _ _ _ hb rfl
  | other => exact finishRecv_inv _ _ _ hb rfl
  | body b hp hc =>
    obtain ⟨-, -, ha, hlt⟩ := (phase_body_iff s).1 hp
    exact finishRecv_inv _ _ _ (advance_inv _ (storeByte_inv b _ hb hc) ha hlt) rfl
  | bodyLast b hp hc =>
    have ho : (completePacket (storeByte b (beginRecv s))).2.olen = 0 := by
      rw [completePacket_olen]; rfl
    exact finishRecv_inv _ _ _ (clearPacket_inv _ (completePacket_inv _ (storeByte_inv b _ hb hc))) ho

/-- Settles O44: each operation a command is made of keeps the invariant, hence each command, hence each step. -/
theorem stepKeepsInv : Obligations.StepKeepsInv := by
  unfold Obligations.StepKeepsInv
  intro s t h hs
  cases step_stepNext s t hs with
  | idle => exact h
  | faulted => exact takeFault_inv _ _ (takeCommand_inv s h)
  | ran r rest i t hc ho hd hx => exact execNext_inv _ _ i (takeCommand_inv s h) hx

/-! ### The decoder's answer has the word's fields -/

/-- A command word is its `op` field above its `data` field (30_encoding.md R70). -/
theorem opField_append_dataField (w : CmdWord) : opField w ++ dataField w = w := by
  ext k hk
  simp only [opField, dataField, BitVec.getElem_append, BitVec.getElem_extractLsb']
  by_cases h : k < 8
  · simp [h, BitVec.getLsbD_eq_getElem hk]
  · have : 8 + (k - 8) = k := by omega
    simp [h, this, BitVec.getLsbD_eq_getElem hk]

theorem decodeHeader_fields (b : Byte) : (decodeHeader b).op = 0b00#2 ∧ (decodeHeader b).data = b := by
  unfold decodeHeader
  split_ifs with hsoh hstx heot hcan hupper hlower
  · exact ⟨rfl, hsoh.symm⟩
  · exact ⟨rfl, hstx.symm⟩
  · exact ⟨rfl, heot.symm⟩
  · exact ⟨rfl, hcan.symm⟩
  · exact ⟨rfl, hupper.symm⟩
  · exact ⟨rfl, hlower.symm⟩
  · exact ⟨rfl, rfl⟩

theorem decodeRecv_fields (ph : Phase) (b : Byte) (i : Instr) (h : decodeRecv ph b = .ok i) :
    i.op = 0b00#2 ∧ i.data = b := by
  cases ph <;> cases h
  case header => exact decodeHeader_fields b
  all_goals exact ⟨rfl, rfl⟩

theorem opField_eq_abort (o : BitVec 2) (h0 : o ≠ 0b00#2) (h1 : o ≠ 0b01#2) (h2 : o ≠ 0b10#2) : o = 0b11#2 := by
  revert o
  decide

/-- 30_encoding.md R71, R72: a word is decoded to an instruction with its own `op` and `data` fields. -/
theorem decode_fields (ph : Phase) (w : CmdWord) (i : Instr) (h : decode ph w = .ok i) :
    i.op = opField w ∧ i.data = dataField w := by
  unfold decode at h
  split_ifs at h with h0 hd h1 h2
  · rw [h0]
    exact decodeRecv_fields ph _ i h
  all_goals
    rw [not_not] at hd
    cases h
  · exact ⟨h1.symm, hd.symm⟩
  · exact ⟨h2.symm, hd.symm⟩
  · exact ⟨(opField_eq_abort _ h0 h1 h2).symm, hd.symm⟩

/-- The word of the instruction the decoder answers is the word it was given. -/
theorem encode_of_decode (ph : Phase) (w : CmdWord) (i : Instr) (h : decode ph w = .ok i) : encode i = w := by
  obtain ⟨ho, hd⟩ := decode_fields ph w i h
  rw [encode, ho, hd, opField_append_dataField]

/-- A command that does not overlap is the request of its word. -/
theorem request_of_not_overlaps (r : Request) (h : r.overlaps = false) : r = request r.word := by
  cases r
  cases h
  rfl

/-! ### The configuration and `INIT_DONE` -/

/-- 10_state.md R34: no command changes the configuration. -/
theorem execNext_params (s t : State) (i : Instr) (hx : ExecNext s i t) : t.params = s.params := by
  cases hx <;> simp

/-- 10_state.md R22: a command leaves `INIT_DONE` set exactly when it was set or the command is INIT. -/
theorem execNext_initDone_iff (s t : State) (i : Instr) (hx : ExecNext s i t) :
    t.initDone = true ↔ s.initDone = true ∨ i = .init := by
  cases hx with
  | outside _ _ hp => obtain ⟨-, b, rfl⟩ | ⟨-, b, rfl⟩ := hp <;> simp
  | uninitialized _ hne hi => simp [hne, hi]
  | laterInit hi => simp [hi]
  | _ => simp

/-- Settles O47, from what every command does to the two. -/
theorem configurationAndInitDone : Obligations.ConfigurationAndInitDone := by
  unfold Obligations.ConfigurationAndInitDone
  intro s t hs
  cases step_stepNext s t hs with
  | idle => exact ⟨rfl, id, fun h0 h1 => absurd (h0.symm.trans h1) (by decide)⟩
  | faulted => exact ⟨rfl, id, fun h0 h1 => absurd (h0.symm.trans h1) (by decide)⟩
  | ran r rest i t hc ho hd hx =>
    have hiff := execNext_initDone_iff _ t i hx
    refine ⟨execNext_params (takeCommand s) t i hx, fun h => hiff.2 (.inl h), fun h0 h1 => ⟨rest, ?_⟩⟩
    obtain h | rfl := hiff.1 h1
    · exact absurd (h0.symm.trans h) (by decide)
    · have hw : initWord = r.word := encode_of_decode _ _ _ hd
      rw [hc, hw, ← request_of_not_overlaps r ho]

/-! ### `EOT_SEEN` -/

/-- 10_state.md R26: what a command makes of `EOT_SEEN`. -/
theorem execNext_eotSeen (s t : State) (i : Instr) (hx : ExecNext s i t) :
    t.eotSeen = s.eotSeen ∨ (t.eotSeen = true ∧ s.phase = .header ∧ i = .recvEot) ∨
      (t.eotSeen = false ∧ (i = .reset ∨ (i = .init ∧ s.initDone = false))) := by
  cases hx with
  | eot hp => exact .inr (.inl ⟨rfl, hp, rfl⟩)
  | reset => exact .inr (.inr ⟨rfl, .inl rfl⟩)
  | firstInit hi => exact .inr (.inr ⟨rfl, .inr ⟨rfl, hi⟩⟩)
  | _ => exact .inl (by simp)

/-- Settles O49: the rows that write `EOT_SEEN`, named by their words. -/
theorem onlyEotByteSetsEotSeen : Obligations.OnlyEotByteSetsEotSeen := by
  unfold Obligations.OnlyEotByteSetsEotSeen
  intro s t hs hne
  cases step_stepNext s t hs with
  | idle => exact absurd rfl hne
  | faulted => exact absurd rfl hne
  | ran r rest i t hc ho hd hx =>
    have hw := encode_of_decode _ _ _ hd
    refine ⟨r, rest, hc, ?_⟩
    obtain h | ⟨he, hp, rfl⟩ | ⟨he, rfl | ⟨rfl, hi⟩⟩ := execNext_eotSeen _ t i hx
    · exact absurd h hne
    · exact .inl ⟨he, hp, hw.symm⟩
    · exact .inr ⟨he, .inl hw.symm⟩
    · exact .inr ⟨he, .inr ⟨hw.symm, hi⟩⟩

/-! ### The header rows -/

/-- A reply is two bytes at most (30_encoding.md R82), so it leaves `OBUF` alone from offset 2 on. -/
theorem read_writeAll_reply (o : Status) (m : Memory) (j : Nat) (hj : 2 ≤ j) :
    (m.writeAll 0 (replyOf o)).read j = m.read j :=
  read_writeAll_outside _ _ _ _ (.inr (by have := replyOf_length_le o; omega))

/-- What the framer makes of a block in AwaitingHeader before the reply, one case per kind of header byte
(43_byte_framer.md R121 to R126). -/
inductive HeaderEffect (s : State) : Instr → State → Prop
  | short : HeaderEffect s .recvSoh (startPacket Config.soh Config.pShort s)
  | long : HeaderEffect s .recvStx (startPacket Config.stx Config.pLong s)
  | eot : HeaderEffect s .recvEot (markEot s)
  | confirmed : HeaderEffect s .recvCan (notify .aborted s)
  | quiet (i : Instr) (hsoh : i ≠ .recvSoh) (hstx : i ≠ .recvStx) (heot : i ≠ .recvEot) : HeaderEffect s i s

/-- A header row is its effect on the framer, then the reply; `PREV` is the row's byte. -/
theorem headerRow_effect (s t : State) (i : Instr) (h : s.AwaitingHeader) (hs : i.selectedIn .header = true)
    (hinit : i ≠ .init) (hreset : i ≠ .reset) (habort : i ≠ .abort) (hx : ExecNext s i t) :
    ∃ o u, HeaderEffect (beginRecv s) i u ∧ t = finishRecv i.data o u := by
  cases hx with
  | uninitialized _ _ hi => exact absurd (hi.symm.trans h.initDone) (by decide)
  | outside _ _ hp => obtain ⟨-, b, rfl⟩ | ⟨-, b, rfl⟩ := hp <;> cases hs
  | firstInit | laterInit => exact absurd rfl hinit
  | reset => exact absurd rfl hreset
  | abort => exact absurd rfl habort
  | sticky | body | bodyLast => cases hs
  | soh => exact ⟨_, _, .short, rfl⟩
  | stx => exact ⟨_, _, .long, rfl⟩
  | eot => exact ⟨_, _, .eot, rfl⟩
  | secondCan => exact ⟨_, _, .confirmed, rfl⟩
  | firstCan | upper | lower => exact ⟨_, _, .quiet _ nofun nofun nofun, rfl⟩
  | other b => exact ⟨_, _, .quiet _ nofun nofun nofun, rfl⟩

/-- Settles O26: a header row is one of five effects on the framer followed by the reply, and the reply touches only
`PREV`, `TERM` and the first two bytes of `OBUF`. -/
theorem headerRowsFrame : Obligations.HeaderRowsFrame := by
  unfold Obligations.HeaderRowsFrame
  intro s t i h hs hinit hreset habort ht
  obtain ⟨o, u, hu, rfl⟩ := headerRow_effect s t i h hs hinit hreset habort (exec_next s t i ht).2
  have hm := h.noFault
  have ha := h.awaiting
  cases hu with
  | short => simp +contextual [hm, read_writeAll_reply, read_write_ne, Instr.data]
  | long => simp +contextual [hm, read_writeAll_reply, read_write_ne, Instr.data]
  | eot => simp +contextual [hm, ha, read_writeAll_reply]
  | confirmed => simp +contextual [hm, ha, read_writeAll_reply]
  | quiet => simp +contextual [hm, ha, read_writeAll_reply]

/-! ### The byte that completes a packet -/

/-- A write beyond a run of bytes leaves the run alone. -/
theorem slice_write_beyond (m : Memory) (a n i : Nat) (v : Byte) (h : a + n ≤ i) :
    (m.write i v).slice a n = m.slice a n := by
  induction n generalizing a with
  | zero => rfl
  | succ n ih => rw [Memory.slice, Memory.slice, ih (a + 1) (by omega), read_write_ne _ _ _ _ (by omega)]

/-- 30_encoding.md R80, 20_memory.md R58: the received checksum is the trailer's two bytes, high byte first. -/
theorem rxCrc_eq_append (m : Memory) (p : Nat) : rxCrc m p = m.read (p + 3) ++ m.read (p + 4) := by
  apply BitVec.eq_of_getLsbD_eq
  intro k hk
  rw [rxCrc, BitVec.getLsbD_or, BitVec.getLsbD_shiftLeft, BitVec.getLsbD_setWidth, BitVec.getLsbD_setWidth,
    BitVec.getLsbD_append]
  by_cases h : k < 8
  · simp [h, hk]
  · simp [h, hk, show k - 8 < 16 by omega, BitVec.getLsbD_of_ge (m.read (p + 4)) k (by omega)]

/-- The packet checks in terms of the bytes of `PBUF` (44_packet_validator.md R140, R141, R143, R144). -/
theorem validated_iff (s : State) :
    Validated s ↔
      s.pbuf.read 2 = s.pbuf.read 1 ^^^ 0xFF#8 ∧ s.eotSeen = false ∧ s.pbuf.read 1 = s.expSeq ∧
        crc16 (s.pbuf.slice 3 s.psize.toNat) = s.pbuf.read (s.psize.toNat + 3) ++ s.pbuf.read (s.psize.toNat + 4) := by
  rw [← rxCrc_eq_append]
  constructor
  · rintro ⟨hcompl, heot, hseq, hcrc⟩
    exact ⟨beq_iff_eq.1 hcompl, heot, hseq, hcrc⟩
  · rintro ⟨hcompl, heot, hseq, hcrc⟩
    exact ⟨beq_iff_eq.2 hcompl, heot, hseq, hcrc⟩

/-- The checks of a packet whose last byte b has just been stored: b is the trailer's low byte, and every other byte
they read was there before. -/
theorem validated_storeByte_iff (s : State) (b : Byte) (hw : Memory.wf Config.pbufCap s.pbuf = true)
    (hc : s.cnt.toNat = s.psize.toNat + 4) :
    Validated (storeByte b s) ↔
      s.pbuf.read 2 = s.pbuf.read 1 ^^^ 0xFF#8 ∧ s.eotSeen = false ∧ s.pbuf.read 1 = s.expSeq ∧
        crc16 (s.pbuf.slice 3 s.psize.toNat) = s.pbuf.read (s.psize.toNat + 3) ++ b := by
  have hbefore (j : Nat) (hj : j < s.psize.toNat + 4) : (storeByte b s).pbuf.read j = s.pbuf.read j :=
    read_write_ne _ _ _ _ (by omega)
  have hpayload : (storeByte b s).pbuf.slice 3 s.psize.toNat = s.pbuf.slice 3 s.psize.toNat :=
    slice_write_beyond _ _ _ _ _ (by omega)
  have hlast : (storeByte b s).pbuf.read (s.psize.toNat + 4) = b := by
    rw [← hc]
    exact read_write_same _ 0 _ hw _ _
  rw [validated_iff, storeByte_psize, storeByte_eotSeen, storeByte_expSeq, hbefore 1 (by omega), hbefore 2 (by omega),
    hpayload, hbefore _ (by omega), hlast]

/-! ### `EXP_SEQ` -/

/-- What the completion of a packet makes of `EXP_SEQ`: it moves only for a validated packet the sink took. -/
theorem completePacket_expSeq (s : State) :
    (completePacket s).2.expSeq = s.expSeq ∨
      (Validated s ∧
        (((completePacket s).2.expSeq = 0x01#8 ∧ s.expSeq = 0x00#8 ∧ (completePacket s).1 = .startRx) ∨
          ((completePacket s).2.expSeq = s.expSeq + 0x01#8 ∧ s.expSeq ≠ 0x00#8 ∧ (completePacket s).1 = .rxOk))) := by
  have h := completePacket_completed s
  generalize completePacket s = r at h
  cases h with
  | accepted hv h0 => exact .inr ⟨hv, .inl ⟨rfl, hv.sequence.symm.trans h0, rfl⟩⟩
  | delivered hv h0 => exact .inr ⟨hv, .inr ⟨rfl, fun he => h0 (hv.sequence.trans he), rfl⟩⟩
  | _ => exact .inl rfl

theorem status_mem_finishRecv_outs (b : Byte) (o : Status) (s : State) :
    PortEvent.status o ∈ (finishRecv b o s).outs := by
  simp [finishRecv]

/-- 10_state.md R27: what a command makes of `EXP_SEQ`. -/
theorem execNext_expSeq (s t : State) (i : Instr) (hx : ExecNext s i t) :
    t.expSeq = s.expSeq ∨ (t.expSeq = 0x00#8 ∧ (i = .reset ∨ (i = .init ∧ s.initDone = false))) ∨
      ∃ b, i = .recvBodyLast b ∧ s.phase = .bodyLast ∧ Validated (storeByte b (beginRecv s)) ∧
        ((t.expSeq = 0x01#8 ∧ s.expSeq = 0x00#8 ∧ PortEvent.status .startRx ∈ t.outs) ∨
          (t.expSeq = s.expSeq + 0x01#8 ∧ s.expSeq ≠ 0x00#8 ∧ PortEvent.status .rxOk ∈ t.outs)) := by
  cases hx with
  | reset => exact .inr (.inl ⟨rfl, .inl rfl⟩)
  | firstInit hi => exact .inr (.inl ⟨rfl, .inr ⟨rfl, hi⟩⟩)
  | bodyLast b hp =>
    rw [finishRecv_expSeq, clearPacket_expSeq]
    obtain h | ⟨hv, ⟨he, h0, ho⟩ | ⟨he, h0, ho⟩⟩ := completePacket_expSeq (storeByte b (beginRecv s))
    · exact .inl h
    · exact .inr (.inr ⟨b, rfl, hp, hv, .inl ⟨he, h0, ho ▸ status_mem_finishRecv_outs b _ _⟩⟩)
    · exact .inr (.inr ⟨b, rfl, hp, hv, .inr ⟨he, h0, ho ▸ status_mem_finishRecv_outs b _ _⟩⟩)
  | _ => exact .inl (by simp)

/-- In a state that meets the invariant the packet's last byte is the one at offset `PSIZE + 4`. -/
theorem cnt_eq_of_bodyLast (s : State) (h : s.Inv) (hp : s.phase = .bodyLast) :
    s.cnt.toNat = s.psize.toNat + 4 := by
  obtain ⟨hi, -, ha, hle⟩ := (phase_bodyLast_iff s).1 hp
  obtain ⟨-, -, hge⟩ := (h.framer hi).assembling ha
  omega

/-- Settles O48: the only row that advances `EXP_SEQ` is the last byte of a validated packet, and the invariant puts
that byte behind all the others the checks read. -/
theorem onlyAcceptedPacketsMoveExpSeq : Obligations.OnlyAcceptedPacketsMoveExpSeq := by
  unfold Obligations.OnlyAcceptedPacketsMoveExpSeq
  intro s t h hs hne
  cases step_stepNext s t hs with
  | idle => exact absurd rfl hne
  | faulted => exact absurd rfl hne
  | ran r rest i t hc ho hd hx =>
    refine ⟨r, rest, hc, ?_⟩
    obtain he | ⟨he, rfl | ⟨rfl, hi⟩⟩ | ⟨b, rfl, hp, hv, hmoved⟩ := execNext_expSeq (takeCommand s) t i hx
    · exact absurd he hne
    · exact .inl ⟨he, .inl hd⟩
    · exact .inl ⟨he, .inr ⟨hd, hi⟩⟩
    · obtain ⟨hcompl, heot, hseq, hcrc⟩ :=
        (validated_storeByte_iff (beginRecv (takeCommand s)) b h.buffers.pbuf (cnt_eq_of_bodyLast s h hp)).1 hv
      exact .inr ⟨b, hd, hcompl, heot, hseq, hcrc, hmoved⟩

/-! ### Reset -/

theorem reset_inv : State.reset.Inv where
  buffers := ⟨rfl, rfl, rfl, rfl⟩
  framer _ := ⟨fun _ => rfl, nofun, rfl, .inl rfl⟩

theorem reset_fresh : State.reset.Fresh :=
  ⟨rfl, rfl, rfl, rfl, rfl, rfl, rfl, rfl, rfl, read_empty, read_empty, read_empty, rfl⟩

/-- Settles O45: `State.reset` is a literal, and both halves are read off its fields. -/
theorem resetMeetsInv : Obligations.ResetMeetsInv := ⟨reset_inv, reset_fresh⟩

end Sys2Proof.Machine
end

section
/-! PROOFS. The memory and the order of a command's effects: canonical buffers are determined by what they read as
(20_memory.md R50), a packet byte outside `PBUF` faults (R50), a step is `exec` of the decoded command (R60), and its
effects come in order (R62). -/

namespace Sys2Proof.Machine

/-! ### What a step runs -/

/-- A command that does not overlap and decodes is fetched: the converse of `fetch_ok`. -/
theorem fetch_of_decode (r : Request) (s : State) (i : Instr) (ho : r.overlaps = false)
    (hd : decode s.phase r.word = .ok i) : fetch r s = .ok i := by
  simp [fetch, ho, hd]

theorem step_of_fetch (s : State) (r : Request) (rest : List Request) (i : Instr) (hm : s.faultMark = none)
    (hc : s.commands = r :: rest) (hf : fetch r s = .ok i) : step s = exec i (takeCommand s) := by
  simp only [step, hm, hc, hf]

theorem takeCommand_eq (s : State) (r : Request) (rest : List Request) (hc : s.commands = r :: rest) :
    takeCommand s = { s with commands := rest } := by
  rw [takeCommand, hc, List.tail_cons]

/-- Settles O5: the command is fetched as the decoder reads it, and the step executes what was fetched. -/
theorem stepRunsDecodedInstruction : Obligations.StepRunsDecodedInstruction := by
  unfold Obligations.StepRunsDecodedInstruction
  intro s r rest i hm hc ho hd
  rw [step_of_fetch s r rest i hm hc (fetch_of_decode r s i ho hd), takeCommand_eq s r rest hc]

/-! ### A packet byte outside the packet buffer -/

theorem withinPacketBuffer_outside (s : State) (k : Result) (h : ¬ s.cnt.toNat < Config.pbufCap) :
    withinPacketBuffer s k = .next (takeFault .reservedCommand s) := by
  simp [withinPacketBuffer, h]

/-- A row guarded by the capacity of `PBUF`, selected with `CNT` outside: the fault, whatever the row's effect. -/
theorem recvRow_outside (i : Instr) (s : State) (k : Result) (h : s.Accumulating) (hw : i.wf = true)
    (hs : i.selectedIn s.phase = true) (hc : ¬ s.cnt.toNat < Config.pbufCap) :
    recvRow i s (withinPacketBuffer s k) = .next (takeFault .reservedCommand s) := by
  rw [recvRow_run _ _ _ h.noFault h.initDone hw hs, withinPacketBuffer_outside s k hc]

/-- Settles O12: 1029 is the capacity of `PBUF`, and the phase selects the row by `CNT` against `PSIZE + 4`. -/
theorem indexOutsidePacketBufferFaults : Obligations.IndexOutsidePacketBufferFaults := by
  unfold Obligations.IndexOutsidePacketBufferFaults
  intro s b h hc
  have hout : ¬ s.cnt.toNat < Config.pbufCap := Nat.not_lt.2 hc
  constructor
  · intro hlt
    have hp : s.phase = .body := (phase_body_iff s).2 ⟨h.initDone, h.nominal, h.accumulating, hlt⟩
    exact recvRow_outside _ s _ h rfl (by rw [hp]; rfl) hout
  · intro hle
    have hp : s.phase = .bodyLast := (phase_bodyLast_iff s).2 ⟨h.initDone, h.nominal, h.accumulating, hle⟩
    exact recvRow_outside _ s _ h rfl (by rw [hp]; rfl) hout

/-! ### The canonical form of a buffer -/

theorem wfFrom_cons_iff (cap lo a : Nat) (v : Byte) (m : Memory) :
    Memory.wfFrom cap lo ((a, v) :: m) = true ↔
      lo ≤ a ∧ a < cap ∧ v ≠ 0x00#8 ∧ Memory.wfFrom cap (a + 1) m = true := by
  simp [Memory.wfFrom, unlisted, and_assoc]

@[simp] theorem read_cons_same (a : Nat) (v : Byte) (m : Memory) : Memory.read ((a, v) :: m) a = v := by
  simp [Memory.read]

theorem read_cons_ne (a j : Nat) (v : Byte) (m : Memory) (h : j ≠ a) : Memory.read ((a, v) :: m) j = m.read j := by
  simp [Memory.read, Ne.symm h]

/-- A buffer in canonical form that reads as cleared lists nothing: every listed byte is nonzero. -/
theorem eq_nil_of_read_zero (cap lo : Nat) (m : Memory) (h : Memory.wfFrom cap lo m = true)
    (hr : ∀ j, m.read j = 0x00#8) : m = [] := by
  cases m with
  | nil => rfl
  | cons c m =>
    obtain ⟨a, v⟩ := c
    obtain ⟨-, -, hv, -⟩ := (wfFrom_cons_iff cap lo a v m).1 h
    exact absurd ((read_cons_same a v m).symm.trans (hr a)) hv

/-- The first index a buffer lists is no lower than that of a buffer that reads the same: below the latter's first
index everything reads as 0x00, and a listed byte is nonzero. -/
theorem head_le_of_read_eq (cap lo lo' a c : Nat) (u v : Byte) (m n : Memory)
    (hm : Memory.wfFrom cap lo ((a, u) :: m) = true) (hn : Memory.wfFrom cap lo' ((c, v) :: n) = true)
    (hr : ∀ j, Memory.read ((a, u) :: m) j = Memory.read ((c, v) :: n) j) : c ≤ a := by
  obtain ⟨-, -, hu, -⟩ := (wfFrom_cons_iff cap lo a u m).1 hm
  obtain ⟨-, hc, hv, hn⟩ := (wfFrom_cons_iff cap lo' c v n).1 hn
  by_contra hlt
  have hzero : Memory.read ((c, v) :: n) a = 0x00#8 :=
    read_below cap c _ ((wfFrom_cons_iff cap c c v n).2 ⟨le_rfl, hc, hv, hn⟩) a (by omega)
  exact hu (by rw [← read_cons_same a u m, hr a, hzero])

/-- Cells with the same first index that read the same have tails that read the same: the tails are cleared at that
index. -/
theorem tail_read_eq (cap a : Nat) (u v : Byte) (m n : Memory) (hm : Memory.wfFrom cap (a + 1) m = true)
    (hn : Memory.wfFrom cap (a + 1) n = true)
    (hr : ∀ j, Memory.read ((a, u) :: m) j = Memory.read ((a, v) :: n) j) (j : Nat) : m.read j = n.read j := by
  by_cases hj : j = a
  · rw [hj, read_below cap _ m hm a (by omega), read_below cap _ n hn a (by omega)]
  · rw [← read_cons_ne a j u m hj, hr j, read_cons_ne a j v n hj]

theorem eq_of_read_eq (cap lo : Nat) (m n : Memory) (hm : Memory.wfFrom cap lo m = true)
    (hn : Memory.wfFrom cap lo n = true) (hr : ∀ j, m.read j = n.read j) : m = n := by
  induction m generalizing lo n with
  | nil => exact (eq_nil_of_read_zero cap lo n hn fun j => (hr j).symm).symm
  | cons c m ih =>
    obtain ⟨a, u⟩ := c
    cases n with
    | nil => exact eq_nil_of_read_zero cap lo _ hm hr
    | cons c' n =>
      obtain ⟨a', v⟩ := c'
      obtain rfl : a = a' := le_antisymm
        (head_le_of_read_eq cap lo lo a' a v u n m hn hm fun j => (hr j).symm)
        (head_le_of_read_eq cap lo lo a a' u v m n hm hn hr)
      obtain ⟨-, -, -, hm⟩ := (wfFrom_cons_iff cap lo a u m).1 hm
      obtain ⟨-, -, -, hn⟩ := (wfFrom_cons_iff cap lo a v n).1 hn
      have huv : u = v := by simpa using hr a
      rw [huv, ih (a + 1) n hm hn (tail_read_eq cap a u v m n hm hn hr)]

/-- Settles O59, by induction on the cells: equal contents force equal first cells and leave tails of equal contents. -/
theorem canonicalBuffersAreEqualByContents : Obligations.CanonicalBuffersAreEqualByContents := by
  unfold Obligations.CanonicalBuffersAreEqualByContents
  exact fun cap m n hm hn hr => eq_of_read_eq cap 0 m n hm hn hr

/-! ### The order of a command's effects -/

/-- The five replies that are not empty (30_encoding.md R82). -/
def nonemptyReplies : List (List Byte) := [[0x15#8], [0x06#8], [0x06#8, 0x43#8], [0x18#8, 0x18#8], [0x43#8]]

/-- At most one sink notification and nothing else: what has come out before the reply. -/
def AtMostOneNotified (outs : List PortEvent) : Prop :=
  ∃ evs : List SinkEvent, outs = evs.map .notify ∧ evs.length ≤ 1

/-- 20_memory.md R62: at most one notification, then at most one write of a nonempty reply, then one status. -/
def EffectsInOrder (outs : List PortEvent) : Prop :=
  ∃ (evs : List SinkEvent) (tx : List (List Byte)) (c : Status),
    outs = evs.map .notify ++ tx.map .transmit ++ [.status c] ∧ evs.length ≤ 1 ∧ tx.length ≤ 1 ∧
    ∀ bs ∈ tx, bs ∈ nonemptyReplies

theorem atMostOneNotified_nil : AtMostOneNotified [] := ⟨[], rfl, Nat.zero_le 1⟩

theorem atMostOneNotified_notify (e : SinkEvent) : AtMostOneNotified [.notify e] := ⟨[e], rfl, le_rfl⟩

theorem effectsInOrder_status (c : Status) : EffectsInOrder [.status c] :=
  ⟨[], [], c, rfl, Nat.zero_le 1, Nat.zero_le 1, nofun⟩

theorem replyOf_mem_nonemptyReplies (o : Status) (h : replyOf o ≠ []) : replyOf o ∈ nonemptyReplies := by
  cases o
  case ok => exact absurd rfl h
  all_goals decide

/-- The transport write of an outcome's reply is at most one, of a nonempty reply. -/
theorem transmitted_replyOf (o : Status) :
    ∃ tx : List (List Byte), transmitted (replyOf o) = tx.map .transmit ∧ tx.length ≤ 1 ∧
      ∀ bs ∈ tx, bs ∈ nonemptyReplies := by
  by_cases h : replyOf o = []
  · exact ⟨[], if_pos h, Nat.zero_le 1, nofun⟩
  · exact ⟨[replyOf o], if_neg h, le_rfl, by simpa using replyOf_mem_nonemptyReplies o h⟩

/-- The end of a RECV puts its write and its status behind what the framer notified. -/
theorem finishRecv_effectsInOrder (b : Byte) (o : Status) (s : State) (h0 : s.olen = 0)
    (hn : AtMostOneNotified s.outs) : EffectsInOrder (finishRecv b o s).outs := by
  obtain ⟨evs, hevs, hlen⟩ := hn
  obtain ⟨tx, htx, htlen, hmem⟩ := transmitted_replyOf o
  exact ⟨evs, tx, o, by rw [finishRecv_outs b o s h0, hevs, htx], hlen, htlen, hmem⟩

/-- The completion of a packet notifies the sink once at most. -/
theorem completePacket_atMostOneNotified (s : State) (h : s.outs = []) :
    AtMostOneNotified (completePacket s).2.outs := by
  have hc := completePacket_completed s
  generalize completePacket s = r at hc
  cases hc with
  | rejected | batchEnd | malformed => simpa [h] using atMostOneNotified_nil
  | closed | accepted | refused | delivered | failed => simpa [h] using atMostOneNotified_notify _

theorem abort_effectsInOrder (s : State) :
    EffectsInOrder (returnStatus .aborted
      (endCommand (setTerm .aborted (emit [Config.can, Config.can] (emptyReply (beginCommand s)))))).outs :=
  ⟨[], [[Config.can, Config.can]], .aborted,
    congrArg (· ++ [PortEvent.status .aborted]) (abortReply_outs (emptyReply (beginCommand s)) rfl),
    Nat.zero_le 1, le_rfl, by decide⟩

/-- A command that leaves no fault mark does its effects in order. -/
theorem execNext_effectsInOrder (s t : State) (i : Instr) (hx : ExecNext s i t) (hm : t.faultMark = none) :
    EffectsInOrder t.outs := by
  cases hx with
  | uninitialized | outside => cases hm
  | firstInit | laterInit | reset | sticky => exact effectsInOrder_status _
  | abort => exact abort_effectsInOrder s
  | soh | stx | eot | firstCan | upper | lower | other | body =>
    exact finishRecv_effectsInOrder _ _ _ rfl atMostOneNotified_nil
  | secondCan => exact finishRecv_effectsInOrder _ _ _ rfl (atMostOneNotified_notify _)
  | bodyLast b =>
    exact finishRecv_effectsInOrder _ _ _ (completePacket_olen _) (completePacket_atMostOneNotified _ rfl)

/-- Settles O52: the port is not idle and no fault is taken, so the step is a command's, one case per way it ends. -/
theorem effectsComeInOrder : Obligations.EffectsComeInOrder := by
  unfold Obligations.EffectsComeInOrder
  intro s t hs hne hm
  cases step_stepNext s t hs with
  | idle hc => exact absurd hc hne
  | faulted => cases hm
  | ran r rest i t hc ho hd hx => exact execNext_effectsInOrder _ t i hx hm

end Sys2Proof.Machine
end

section
/-! PROOFS. Encoding: the round trips between words and instructions (30_encoding.md R70 to R73, R88, R90), and what a
step makes of the word at the port (R72, R90). -/

namespace Sys2Proof.Machine

/-! ### The rows of the opcode table and their words -/

@[simp] theorem opField_encode (i : Instr) : opField (encode i) = i.op := (Laws.EncodeFields.fields_of_append _ _).1

@[simp] theorem dataField_encode (i : Instr) : dataField (encode i) = i.data :=
  (Laws.EncodeFields.fields_of_append _ _).2

theorem decode_of_recv (ph : Phase) (w : CmdWord) (h : opField w = 0b00#2) :
    decode ph w = decodeRecv ph (dataField w) := if_pos h

/-- 30_encoding.md R72: a nonzero data field is reserved for the other three rows. -/
theorem decode_reserved (ph : Phase) (w : CmdWord) (ho : opField w ≠ 0b00#2) (hd : dataField w ≠ 0x00#8) :
    decode ph w = .error .reservedData := by
  rw [decode, if_neg ho, if_pos hd]

theorem decode_initWord (ph : Phase) : decode ph initWord = .ok .init := rfl

theorem decode_resetWord (ph : Phase) : decode ph resetWord = .ok .reset := rfl

theorem decode_abortWord (ph : Phase) : decode ph abortWord = .ok .abort := rfl

/-- 30_encoding.md R75: a header row is the class of its own byte. -/
theorem decodeHeader_data (i : Instr) (ho : i.op = 0b00#2) (hw : i.wf = true) (hs : i.selectedIn .header = true) :
    decodeHeader i.data = i := by
  cases i with
  | init | reset | abort => cases ho
  | recvSticky | recvBody | recvBodyLast => cases hs
  | recvSoh | recvStx | recvEot | recvCan | recvUabortUpper | recvUabortLower => rfl
  | recvHdrOther b =>
    simp only [Instr.wf, isNamedHeaderByte, Bool.not_eq_true', Bool.or_eq_false_iff, beq_eq_false_iff_ne] at hw
    simp [decodeHeader, Instr.data, hw]

/-- A RECV row that the phase selects is what the phase decodes its byte to (30_encoding.md R73, R90). -/
theorem decodeRecv_data (ph : Phase) (i : Instr) (ho : i.op = 0b00#2) (hw : i.wf = true)
    (hs : i.selectedIn ph = true) : decodeRecv ph i.data = .ok i := by
  cases i with
  | init | reset | abort => cases ho
  | recvSticky | recvBody | recvBodyLast =>
    obtain rfl := beq_iff_eq.1 hs
    rfl
  | recvSoh | recvStx | recvEot | recvCan | recvUabortUpper | recvUabortLower | recvHdrOther =>
    obtain rfl := beq_iff_eq.1 hs
    exact congrArg _ (decodeHeader_data _ ho hw rfl)

/-- Settles O1: INIT, RESET and ABORT are exact words; a RECV row's word carries its byte, and the phase that selects
the row decodes that byte to it. -/
theorem decodeOfEncodeGivesInstr : Obligations.DecodeOfEncodeGivesInstr := by
  unfold Obligations.DecodeOfEncodeGivesInstr
  intro i ph hw hs
  by_cases ho : i.op = 0b00#2
  · rw [decode_of_recv ph _ ((opField_encode i).trans ho), dataField_encode, decodeRecv_data ph i ho hw hs]
  · cases i with
    | init => exact decode_initWord ph
    | reset => exact decode_resetWord ph
    | abort => exact decode_abortWord ph
    | _ => exact absurd rfl ho

theorem decodeHeader_wf (b : Byte) : (decodeHeader b).wf = true := by
  unfold decodeHeader
  split_ifs with hsoh hstx heot hcan hupper hlower
  case neg => simp [Instr.wf, isNamedHeaderByte, hsoh, hstx, heot, hcan, hupper, hlower]
  all_goals rfl

theorem decodeHeader_selected (b : Byte) : (decodeHeader b).selectedIn .header = true := by
  unfold decodeHeader
  split_ifs <;> rfl

theorem decodeRecv_selected (ph : Phase) (b : Byte) (i : Instr) (h : decodeRecv ph b = .ok i) :
    i.wf = true ∧ i.selectedIn ph = true := by
  cases ph <;> cases h
  case header => exact ⟨decodeHeader_wf b, decodeHeader_selected b⟩
  all_goals exact ⟨rfl, rfl⟩

/-- The decoder answers a well-formed instruction of a row the phase selects (30_encoding.md R73, R90). -/
theorem decode_selected (ph : Phase) (w : CmdWord) (i : Instr) (h : decode ph w = .ok i) :
    i.wf = true ∧ i.selectedIn ph = true := by
  unfold decode at h
  split_ifs at h
  · exact decodeRecv_selected ph _ i h
  all_goals
    cases h
    exact ⟨rfl, rfl⟩

/-- Settles O2: the decoder keeps both fields of the word, and answers a row that its phase selects. -/
theorem encodeOfDecodeGivesWord : Obligations.EncodeOfDecodeGivesWord := by
  unfold Obligations.EncodeOfDecodeGivesWord
  exact fun ph w i h => ⟨encode_of_decode ph w i h, decode_selected ph w i h⟩

/-- Settles O3: each word is a literal, and decoding computes. -/
theorem writtenOutWordsDecode : Obligations.WrittenOutWordsDecode := by
  unfold Obligations.WrittenOutWordsDecode
  decide

/-! ### The words of received bytes -/

/-- 30_encoding.md R88: the word of `RECV b` is the `op` 0b00 above b. -/
theorem recvWord_eq_append (b : Byte) : recvWord b = 0b00#2 ++ b := BitVec.setWidth_eq_append (by decide)

@[simp] theorem opField_recvWord (b : Byte) : opField (recvWord b) = 0b00#2 := by
  rw [recvWord_eq_append]
  exact (Laws.EncodeFields.fields_of_append _ _).1

@[simp] theorem dataField_recvWord (b : Byte) : dataField (recvWord b) = b := by
  rw [recvWord_eq_append]
  exact (Laws.EncodeFields.fields_of_append _ _).2

/-- 30_encoding.md R73: the word of `RECV b` is decoded with the state. -/
theorem decode_recvWord (ph : Phase) (b : Byte) : decode ph (recvWord b) = decodeRecv ph b := by
  rw [decode_of_recv ph _ (opField_recvWord b), dataField_recvWord]

/-- Settles O4: the three fixed words, and a RECV word as its two fields. -/
theorem assemblerWordsDecode : Obligations.AssemblerWordsDecode := by
  unfold Obligations.AssemblerWordsDecode
  exact fun ph b => ⟨decode_initWord ph, decode_resetWord ph, decode_abortWord ph, (BitVec.zero_or).symm,
    decode_recvWord ph b⟩

/-! ### A command at the port -/

theorem commandOfNat_of_lt (w : Nat) (h : w < 1024) : commandOfNat w = some (BitVec.ofNat 10 w) := if_pos h

/-- Settles O6: the word stands first at the port, decodes to the instruction, and taking it gives the state back. -/
theorem fetchWordIsTheNextCommand : Obligations.FetchWordIsTheNextCommand := by
  unfold Obligations.FetchWordIsTheNextCommand
  intro s nbits w i hw hm hd
  have hcmd := commandOfNat_of_lt w hw
  have hdec : decode s.phase (BitVec.ofNat 10 w) = .ok i := by
    simpa only [decodeBits, hcmd] using hd
  have hissue : s.withFetchWord nbits w = issue (BitVec.ofNat 10 w) s := by
    simp only [State.withFetchWord, hcmd]
  rw [hissue]
  exact stepRunsDecodedInstruction _ _ s.commands i hm rfl rfl hdec

theorem step_of_fetch_error (s : State) (r : Request) (rest : List Request) (f : Fault) (hm : s.faultMark = none)
    (hc : s.commands = r :: rest) (hf : fetch r s = .error f) : step s = .next (takeFault f (takeCommand s)) := by
  simp only [step, hm, hc, hf]

/-- Settles O11: the decoder rejects the word whatever the phase, and the step takes the rejection's fault. -/
theorem reservedWordFaults : Obligations.ReservedWordFaults := by
  unfold Obligations.ReservedWordFaults
  intro s w rest hm hc ho hd
  have hf : fetch (request w) s = .error .reservedCommand := by
    simp [fetch, request, decode_reserved s.phase w ho hd, faultOf]
  rw [step_of_fetch_error s _ rest _ hm hc hf, takeCommand_eq s _ rest hc]
  rfl

/-! ### No step refuses -/

theorem unlessFaulted_ne_refused (s : State) (k : Result) (r : Refusal) (h : k ≠ .refused r) :
    unlessFaulted s k ≠ .refused r := by
  unfold unlessFaulted
  split
  · nofun
  · exact h

theorem whenInitialized_ne_refused (s : State) (k : Result) (r : Refusal) (h : k ≠ .refused r) :
    whenInitialized s k ≠ .refused r := by
  unfold whenInitialized
  split
  · exact h
  · nofun

theorem withinPacketBuffer_ne_refused (s : State) (k : Result) (r : Refusal) (h : k ≠ .refused r) :
    withinPacketBuffer s k ≠ .refused r := by
  unfold withinPacketBuffer
  split
  · exact h
  · nofun

/-- A RECV row refuses only where the phase does not select it (30_encoding.md R90). -/
theorem recvRow_ne_refused (i : Instr) (s : State) (k : Result) (r : Refusal) (hw : i.wf = true)
    (hs : i.selectedIn s.phase = true) (h : k ≠ .refused r) : recvRow i s k ≠ .refused r := by
  rw [recvRow, hw, hs]
  exact unlessFaulted_ne_refused _ _ _ (whenInitialized_ne_refused _ _ _ h)

/-- An instruction executed in a state that selects its row answers a next state or a fault. -/
theorem exec_ne_refused (i : Instr) (s : State) (r : Refusal) (hw : i.wf = true) (hs : i.selectedIn s.phase = true) :
    exec i s ≠ .refused r := by
  cases i with
  | init => exact unlessFaulted_ne_refused _ _ _ nofun
  | reset | abort => exact unlessFaulted_ne_refused _ _ _ (whenInitialized_ne_refused _ _ _ nofun)
  | recvSticky | recvSoh | recvStx | recvEot | recvUabortUpper | recvUabortLower | recvHdrOther =>
    exact recvRow_ne_refused _ _ _ _ hw hs nofun
  | recvCan =>
    refine recvRow_ne_refused _ _ _ _ hw hs ?_
    split <;> nofun
  | recvBody | recvBodyLast =>
    exact recvRow_ne_refused _ _ _ _ hw hs (withinPacketBuffer_ne_refused _ _ _ nofun)

/-- Settles O13: the step executes what it has decoded in its own phase, so the row is one the phase selects. -/
theorem noStepRefuses : Obligations.NoStepRefuses := by
  unfold Obligations.NoStepRefuses
  intro s r
  unfold step
  split
  · nofun
  · split
    · nofun
    · split
      · nofun
      · rename_i i hi
        obtain ⟨-, hd⟩ := fetch_ok _ s i hi
        obtain ⟨hw, hs⟩ := decode_selected _ _ i hd
        exact exec_ne_refused i (takeCommand s) r hw hs

end Sys2Proof.Machine
end

section
/-! PROOFS. Packets fed byte by byte (30_encoding.md R78, R89): a run of bytes is stored in `PBUF` in order
(43_byte_framer.md R127), so a block in AwaitingHeader that has received a whole packet holds it as it was sent when the
checks begin (44_packet_validator.md R140). -/

namespace Sys2Proof.Machine

/-! ### Receiving a byte -/

theorem bytesCommands_append (bs cs : List Byte) : bytesCommands (bs ++ cs) = bytesCommands bs ++ bytesCommands cs :=
  List.map_append

/-- A step that receives the byte b runs the row the phase selects for b. -/
theorem step_recv (s : State) (b : Byte) (rest : List Request) (i : Instr) (hm : s.faultMark = none)
    (hc : s.commands = bytesCommands [b] ++ rest) (hd : decodeRecv s.phase b = .ok i) :
    step s = exec i { s with commands := rest } :=
  stepRunsDecodedInstruction s _ rest i hm hc rfl ((decode_recvWord s.phase b).trans hd)

/-! ### Runs of steps -/

theorem runSteps_succ (n : Nat) (s t : State) (h : step s = .next t) : runSteps (n + 1) s = runSteps n t := by
  simp only [runSteps, h]

theorem runSteps_add (n m : Nat) (s t : State) (h : runSteps n s = .next t) :
    runSteps (n + m) s = runSteps m t := by
  induction n generalizing s with
  | zero =>
    cases h
    rw [Nat.zero_add]
  | succ n ih =>
    cases hs : step s with
    | next u =>
      rw [runSteps_succ n s u hs] at h
      rw [Nat.add_right_comm, runSteps_succ _ s u hs, ih u h]
    | fault | refused => simp [runSteps, hs] at h

/-- The invariant holds after every run of steps. -/
theorem runSteps_inv (n : Nat) (s t : State) (hi : s.Inv) (h : runSteps n s = .next t) : t.Inv := by
  induction n generalizing s with
  | zero =>
    cases h
    exact hi
  | succ n ih =>
    cases hs : step s with
    | next u =>
      rw [runSteps_succ n s u hs] at h
      exact ih u (stepKeepsInv s u hi hs) h
    | fault | refused => simp [runSteps, hs] at h

/-! ### Bytes that do not complete the packet -/

/-- The block after the bytes bs, none of which completes the packet, have been received: they stand in `PBUF` from
`CNT` on (43_byte_framer.md R127). -/
def assembled (bs : List Byte) (rest : List Request) (s : State) : State :=
  { s with
    commands := rest
    pbuf := s.pbuf.writeAll s.cnt.toNat bs
    cnt := s.cnt + BitVec.ofNat 11 bs.length
    prev := bs.getLastD s.prev
    outs := if bs = [] then s.outs else [.status .ok] }

theorem assembled_accumulating (bs : List Byte) (rest : List Request) (s : State) (h : s.Accumulating) :
    (assembled bs rest s).Accumulating :=
  ⟨h.noFault, h.initDone, h.nominal, h.accumulating⟩

@[simp] theorem assembled_psize (bs : List Byte) (rest : List Request) (s : State) :
    (assembled bs rest s).psize = s.psize := rfl

@[simp] theorem assembled_cnt (bs : List Byte) (rest : List Request) (s : State) :
    (assembled bs rest s).cnt = s.cnt + BitVec.ofNat 11 bs.length := rfl

theorem assembled_nil (s : State) : assembled [] s.commands s = s := by
  simp [assembled, Memory.writeAll]

theorem cnt_succ_toNat (c : Count) (h : c.toNat + 1 < 2 ^ 11) : (c + 1#11).toNat = c.toNat + 1 := by
  rw [BitVec.toNat_add]
  exact Nat.mod_eq_of_lt h

theorem assembled_assembled (b : Byte) (bs : List Byte) (rest rest' : List Request) (s : State)
    (h : s.cnt.toNat + 1 < 2 ^ 11) : assembled bs rest (assembled [b] rest' s) = assembled (b :: bs) rest s := by
  have hcnt : s.cnt + 1#11 + BitVec.ofNat 11 bs.length = s.cnt + BitVec.ofNat 11 (bs.length + 1) := by
    rw [BitVec.ofNat_add, BitVec.add_comm (BitVec.ofNat 11 bs.length), BitVec.add_assoc]
  simp [assembled, cnt_succ_toNat _ h, hcnt, Memory.writeAll, List.getLast?_cons]

/-- A byte of a packet that has not been completed is stored within `PBUF`. -/
theorem cnt_lt_pbufCap (s : State) (h : s.Accumulating) (hi : s.Inv) : s.cnt.toNat < Config.pbufCap := by
  obtain ⟨hl, -, hle⟩ := (hi.framer h.initDone).assembling h.accumulating
  have hp := psize_toNat_le s.psize hl
  change s.cnt.toNat < 1029
  omega

/-- What the row RECV.BODY makes of a block whose reply is empty, as one update of the state. -/
theorem finishRecv_body (b : Byte) (s : State) (h0 : s.olen = 0) :
    finishRecv b .ok (advance (storeByte b (beginRecv s))) = assembled [b] s.commands s := by
  apply State.ext
  case outs => exact finishRecv_outs b .ok _ rfl
  all_goals simp [assembled, h0, replyOf, stickyOf, Memory.writeAll]

/-- The byte b received in AccumulatingBody, with more of the packet to come. -/
theorem step_body (s : State) (b : Byte) (rest : List Request) (h : s.Accumulating) (hi : s.Inv)
    (hlt : s.cnt.toNat < s.psize.toNat + 4) (hc : s.commands = bytesCommands [b] ++ rest) :
    step s = .next (assembled [b] rest s) := by
  have h0 : s.olen = 0 := (hi.framer h.initDone).drained
  have hp := (phase_body_iff s).2 ⟨h.initDone, h.nominal, h.accumulating, hlt⟩
  calc step s
    _ = exec (.recvBody b) { s with commands := rest } := step_recv s b rest _ h.noFault hc (by rw [hp]; rfl)
    _ = .next (finishRecv b .ok (advance (storeByte b (beginRecv { s with commands := rest })))) :=
      recvBody_run _ b ⟨h.noFault, h.initDone, h.nominal, h.accumulating⟩ hlt (cnt_lt_pbufCap s h hi)
    _ = .next (assembled [b] rest s) := congrArg Host.Outcome.next (finishRecv_body b { s with commands := rest } h0)

/-- 43_byte_framer.md R127, R131: bytes that do not complete the packet are stored one after another. -/
theorem runSteps_body (bs : List Byte) (rest : List Request) (s : State) (h : s.Accumulating) (hi : s.Inv)
    (hlen : s.cnt.toNat + bs.length ≤ s.psize.toNat + 4) (hc : s.commands = bytesCommands bs ++ rest) :
    runSteps bs.length s = .next (assembled bs rest s) := by
  induction bs generalizing s with
  | nil =>
    obtain rfl : s.commands = rest := hc
    rw [assembled_nil]
    rfl
  | cons b bs ih =>
    rw [List.length_cons] at hlen
    have hs := step_body s b (bytesCommands bs ++ rest) h hi (by omega) hc
    have hn : s.cnt.toNat + 1 < 2 ^ 11 := by
      have : s.cnt.toNat < 1029 := cnt_lt_pbufCap s h hi
      omega
    have hcnt : (assembled [b] (bytesCommands bs ++ rest) s).cnt.toNat = s.cnt.toNat + 1 := cnt_succ_toNat _ hn
    rw [List.length_cons, runSteps_succ _ _ _ hs, ← assembled_assembled b bs rest _ s hn]
    exact ih _ (assembled_accumulating _ _ _ h) (stepKeepsInv _ _ hi hs)
      (by rw [hcnt]; simp only [assembled]; omega) rfl

/-! ### A whole packet -/

theorem writeAll_append (m : Memory) (i : Nat) (bs cs : List Byte) :
    m.writeAll i (bs ++ cs) = (m.writeAll i bs).writeAll (i + bs.length) cs := by
  induction bs generalizing m i with
  | nil => rfl
  | cons b bs ih => simp only [List.cons_append, Memory.writeAll, ih, List.length_cons, Nat.add_assoc, Nat.add_comm 1]

/-- The block after the leading byte of a packet of payload length p (43_byte_framer.md R121, R122). -/
def started (p : Nat) (rest : List Request) (s : State) : State :=
  finishRecv (leadFor p) .ok (startPacket (leadFor p) p (beginRecv { s with commands := rest }))

theorem started_accumulating (p : Nat) (rest : List Request) (s : State) (h : s.AwaitingHeader) :
    (started p rest s).Accumulating where
  noFault := by simp [started, h.noFault]
  initDone := by simp [started, h.initDone]
  nominal := by simp [started, stickyOf, h.nominal]
  accumulating := by simp [started]

@[simp] theorem started_cnt (p : Nat) (rest : List Request) (s : State) : (started p rest s).cnt = 1#11 := rfl

theorem started_psize (p : Nat) (rest : List Request) (s : State) (hp : p = 128 ∨ p = 1024) :
    (started p rest s).psize.toNat = p := by
  rw [started, finishRecv_psize, startPacket_psize, BitVec.toNat_ofNat, Nat.mod_eq_of_lt (by omega)]

theorem step_leadingByte (s : State) (p : Nat) (rest : List Request) (h : s.AwaitingHeader)
    (hp : p = 128 ∨ p = 1024) (hc : s.commands = bytesCommands [leadFor p] ++ rest) :
    step s = .next (started p rest s) := by
  have hw : State.AwaitingHeader { s with commands := rest } := ⟨h.noFault, h.initDone, h.nominal, h.awaiting⟩
  have hph := phase_of_awaitingHeader s h
  obtain rfl | rfl := hp
  · rw [step_recv s _ rest .recvSoh h.noFault hc (by rw [hph]; rfl)]
    exact headerRow_run _ hw .recvSoh rfl rfl _
  · rw [step_recv s _ rest .recvStx h.noFault hc (by rw [hph]; rfl)]
    exact headerRow_run _ hw .recvStx rfl rfl _

/-- The block after the last byte b of a packet: the outcome and the effects are those of the checks on the block s that
holds the packet, and the packet is cleared (43_byte_framer.md R128, R130). -/
def concluded (b : Byte) (s : State) : State :=
  finishRecv b (completePacket s).1 (clearPacket (completePacket s).2)

/-- The byte that completes a packet: it is stored, and the outcome is that of the checks (43_byte_framer.md R128). -/
theorem step_bodyLast (s : State) (b : Byte) (rest : List Request) (h : s.Accumulating) (hi : s.Inv)
    (hle : s.psize.toNat + 4 ≤ s.cnt.toNat) (hc : s.commands = bytesCommands [b] ++ rest) :
    step s = .next (concluded b (storeByte b (beginRecv { s with commands := rest }))) := by
  have hp := (phase_bodyLast_iff s).2 ⟨h.initDone, h.nominal, h.accumulating, hle⟩
  rw [step_recv s b rest (.recvBodyLast b) h.noFault hc (by rw [hp]; rfl)]
  exact recvBodyLast_run _ b ⟨h.noFault, h.initDone, h.nominal, h.accumulating⟩ hle (cnt_lt_pbufCap s h hi)

/-- The block that holds these bytes of a packet of payload length p, all of them received and none checked yet. -/
def holding (bytes : List Byte) (p : Nat) (pv : Byte) (rest : List Request) (s : State) : State :=
  { s with
    commands := rest
    await := false
    pbuf := s.pbuf.writeAll 0 bytes
    psize := BitVec.ofNat 11 p
    cnt := BitVec.ofNat 11 (p + 4)
    prev := pv
    outs := [] }

/-- Behind the leading byte and the body `CNT` is at the last byte: the sum does not wrap. -/
theorem cnt_behind_body (p : Nat) (body : List Byte) (hp : p = 128 ∨ p = 1024) (hlen : body.length = p + 3) :
    (1#11 + BitVec.ofNat 11 body.length).toNat = p + 4 := by
  rw [hlen, ← BitVec.ofNat_add, BitVec.toNat_ofNat, Nat.mod_eq_of_lt (by omega)]
  omega

/-- The last byte of a packet, stored behind the leading byte and the body. -/
theorem storeByte_last_eq_holding (s : State) (p : Nat) (body : List Byte) (last : Byte) (rest r₁ r₂ : List Request)
    (h0 : s.olen = 0) (hp : p = 128 ∨ p = 1024) (hlen : body.length = p + 3) :
    storeByte last (beginRecv { assembled body r₁ (started p r₂ s) with commands := rest }) =
      holding (leadFor p :: body ++ [last]) p (body.getLastD (leadFor p)) rest s := by
  have hcnt : 1#11 + BitVec.ofNat 11 body.length = BitVec.ofNat 11 (p + 4) := by
    rw [hlen, ← BitVec.ofNat_add, Nat.add_comm 1]
  have hn : (1#11 + BitVec.ofNat 11 body.length).toNat = 1 + body.length := by
    rw [cnt_behind_body p body hp hlen, hlen]
    omega
  apply State.ext
  case pbuf => simp [assembled, started, holding, hn, Memory.writeAll, writeAll_append]
  all_goals simp [assembled, started, holding, h0, hcnt, replyOf, stickyOf, Memory.writeAll]

/-- A whole packet is received one byte a step, and its last byte ends it with the outcome of the checks. -/
theorem runSteps_packet (s : State) (p : Nat) (body : List Byte) (last : Byte) (rest : List Request)
    (h : s.AwaitingHeader) (hi : s.Inv) (hp : p = 128 ∨ p = 1024) (hlen : body.length = p + 3)
    (hc : s.commands = bytesCommands (leadFor p :: body ++ [last]) ++ rest) :
    runSteps (p + 5) s = .next (concluded last
      (holding (leadFor p :: body ++ [last]) p (body.getLastD (leadFor p)) rest s)) := by
  have hstart : step s = .next (started p (bytesCommands body ++ (bytesCommands [last] ++ rest)) s) :=
    step_leadingByte s p _ h hp (by rw [hc, bytesCommands_append]; simp [bytesCommands])
  have hi₁ := stepKeepsInv _ _ hi hstart
  have ha := started_accumulating p (bytesCommands body ++ (bytesCommands [last] ++ rest)) s h
  have hsize := started_psize p (bytesCommands body ++ (bytesCommands [last] ++ rest)) s hp
  have hbody := runSteps_body body (bytesCommands [last] ++ rest) _ ha hi₁
    (by rw [hsize, hlen, started_cnt, BitVec.toNat_ofNat]; omega) rfl
  have hlast := step_bodyLast _ last rest (assembled_accumulating _ _ _ ha) (runSteps_inv _ _ _ hi₁ hbody)
    (by rw [assembled_psize, hsize, assembled_cnt, started_cnt, cnt_behind_body p body hp hlen]) rfl
  rw [storeByte_last_eq_holding s p body last rest _ _ (hi.framer h.initDone).drained hp hlen] at hlast
  rw [show p + 5 = body.length + 1 + 1 by omega, runSteps_succ _ _ _ hstart, runSteps_add _ _ _ _ hbody,
    runSteps_succ _ _ _ hlast]
  rfl

/-! ### The fields of a packet that has been received whole -/

/-- A run of bytes inside a longer one is read back where it was written. -/
theorem slice_writeAll_middle (cap : Nat) (pre mid post : List Byte) (m : Memory) (i : Nat)
    (hi : i + (pre ++ mid ++ post).length ≤ cap) (h : m.wf cap = true) :
    (m.writeAll i (pre ++ mid ++ post)).slice (i + pre.length) mid.length = mid := by
  apply List.ext_getElem (slice_length _ _ _)
  intro k h₁ h₂
  have hk : pre.length + k < (pre ++ mid ++ post).length := by
    simp only [List.length_append]
    omega
  rw [slice_getElem, Nat.add_assoc, read_writeAll cap _ m i _ hk hi h, List.append_assoc,
    List.getD_eq_getElem?_getD, List.getElem?_append_right (Nat.le_add_right _ _),
    Nat.add_sub_cancel_left, List.getElem?_append_left h₂, List.getElem?_eq_getElem h₂, Option.getD_some]

theorem pktRaw_length (lead seq cseq : Byte) (payload : List Byte) (crc : Crc) :
    (pktRaw lead seq cseq payload crc).length = payload.length + 5 := by
  simp [pktRaw, crcTrailer]

section Packet

/-- The block s with the packet `PKTRAW` (30_encoding.md R89) in `PBUF`, yet to be checked. -/
def holdingPacket (seq cseq : Byte) (payload : List Byte) (crc : Crc) (pv : Byte) (rest : List Request)
    (s : State) : State :=
  holding (pktRaw (leadFor payload.length) seq cseq payload crc) payload.length pv rest s

variable {s : State} {seq cseq pv : Byte} {payload : List Byte} {crc : Crc} {rest : List Request}

@[simp] theorem holdingPacket_initDone : (holdingPacket seq cseq payload crc pv rest s).initDone = s.initDone := rfl
@[simp] theorem holdingPacket_term : (holdingPacket seq cseq payload crc pv rest s).term = s.term := rfl
@[simp] theorem holdingPacket_eotSeen : (holdingPacket seq cseq payload crc pv rest s).eotSeen = s.eotSeen := rfl
@[simp] theorem holdingPacket_expSeq : (holdingPacket seq cseq payload crc pv rest s).expSeq = s.expSeq := rfl
@[simp] theorem holdingPacket_olen : (holdingPacket seq cseq payload crc pv rest s).olen = s.olen := rfl
@[simp] theorem holdingPacket_faultMark : (holdingPacket seq cseq payload crc pv rest s).faultMark = s.faultMark := rfl
@[simp] theorem holdingPacket_commands : (holdingPacket seq cseq payload crc pv rest s).commands = rest := rfl
@[simp] theorem holdingPacket_outs : (holdingPacket seq cseq payload crc pv rest s).outs = [] := rfl

variable (hlen : payload.length = 128 ∨ payload.length = 1024)
include hlen

theorem holdingPacket_psize : (holdingPacket seq cseq payload crc pv rest s).psize.toNat = payload.length := by
  rw [holdingPacket, holding, BitVec.toNat_ofNat, Nat.mod_eq_of_lt (by omega)]

variable (hw : Memory.wf Config.pbufCap s.pbuf = true)
include hw

/-- Byte k of the packet stands at offset k of `PBUF` (20_memory.md R52). -/
theorem holdingPacket_read (k : Nat) (hk : k < payload.length + 5) :
    (holdingPacket seq cseq payload crc pv rest s).pbuf.read k =
      (pktRaw (leadFor payload.length) seq cseq payload crc).getD k 0x00#8 := by
  have h := read_writeAll Config.pbufCap (pktRaw (leadFor payload.length) seq cseq payload crc) s.pbuf 0 k
    (by rw [pktRaw_length]; exact hk) (by rw [pktRaw_length]; change _ ≤ 1029; omega) hw
  rwa [Nat.zero_add] at h

theorem holdingPacket_seqByte : seqByte (holdingPacket seq cseq payload crc pv rest s).pbuf = seq :=
  holdingPacket_read hlen hw 1 (by omega)

theorem holdingPacket_cseqByte : cseqByte (holdingPacket seq cseq payload crc pv rest s).pbuf = cseq :=
  holdingPacket_read hlen hw 2 (by omega)

theorem holdingPacket_payloadOf :
    payloadOf (holdingPacket seq cseq payload crc pv rest s).pbuf payload.length = payload :=
  slice_writeAll_middle Config.pbufCap [leadFor payload.length, seq, cseq] payload (crcTrailer crc) s.pbuf 0
    (by change 0 + (pktRaw (leadFor payload.length) seq cseq payload crc).length ≤ 1029; rw [pktRaw_length]; omega) hw

theorem holdingPacket_rxCrc :
    rxCrc (holdingPacket seq cseq payload crc pv rest s).pbuf payload.length = crc := by
  rw [rxCrc_eq_append, holdingPacket_read hlen hw _ (by omega), holdingPacket_read hlen hw _ (by omega)]
  simpa [pktRaw, crcTrailer] using BitVec.extractLsb'_append_extractLsb' (w := 8) (len := 8)

/-- 44_packet_validator.md R140: when a whole packet passes the checks, in terms of the bytes that were sent. -/
theorem validated_holdingPacket_iff :
    Validated (holdingPacket seq cseq payload crc pv rest s) ↔
      cseq = seq ^^^ 0xFF#8 ∧ s.eotSeen = false ∧ seq = s.expSeq ∧ crc16 payload = crc := by
  rw [validated_iff, ← rxCrc_eq_append, holdingPacket_psize hlen, holdingPacket_rxCrc hlen hw]
  change cseqByte _ = seqByte _ ^^^ 0xFF#8 ∧ s.eotSeen = false ∧ seqByte _ = s.expSeq ∧ crc16 (payloadOf _ _) = _ ↔ _
  rw [holdingPacket_seqByte hlen hw, holdingPacket_cseqByte hlen hw, holdingPacket_payloadOf hlen hw]

end Packet

/-! ### Delivery -/

theorem completePacket_of_validated (s : State) (h : Validated s) : completePacket s = dispatch s := by
  obtain ⟨hcompl, heot, hseq, hsum⟩ := h
  unfold completePacket
  rw [if_neg (by simp [hcompl]), if_neg (by simp [heot]), if_neg (by simp [sequenceOk, hseq]),
    if_neg (by simp [checksumOk, hsum])]

/-- 45_dispatcher_metadata.md R160, R170: a validated packet with a nonzero number that the sink takes. -/
theorem completePacket_delivered (s : State) (h : Validated s) (h0 : seqByte s.pbuf ≠ 0x00#8)
    (ha : sinkAnswer s = true) :
    completePacket s = (.rxOk, setExpSeq (s.expSeq + 0x01#8)
      (dropAnswer (notify (.data s.psize.toNat (payloadOf s.pbuf s.psize.toNat)) s))) := by
  rw [completePacket_of_validated s h, dispatch, if_neg h0, dataDeliver, if_pos ha]

/-- A whole `PKTRAW` is received one byte a step, and its last byte ends it with the outcome of the checks. -/
theorem runSteps_pktRaw (s : State) (seq cseq : Byte) (payload : List Byte) (crc : Crc) (rest : List Request)
    (h : s.AwaitingHeader) (hi : s.Inv) (hlen : payload.length = 128 ∨ payload.length = 1024)
    (hc : s.commands = bytesCommands (pktRaw (leadFor payload.length) seq cseq payload crc) ++ rest) :
    ∃ b pv, runSteps (payload.length + 5) s = .next (concluded b (holdingPacket seq cseq payload crc pv rest s)) := by
  have hsplit : pktRaw (leadFor payload.length) seq cseq payload crc =
      leadFor payload.length :: ([seq, cseq] ++ payload ++ [crc.extractLsb' 8 8]) ++ [crc.extractLsb' 0 8] := by
    simp [pktRaw, crcTrailer]
  have hrun := runSteps_packet s payload.length ([seq, cseq] ++ payload ++ [crc.extractLsb' 8 8]) _ rest h hi hlen
    (by simp) (by rw [hc, hsplit])
  rw [← hsplit] at hrun
  exact ⟨_, _, hrun⟩

/-- Settles O56: received whole, the packet passes the checks because its fields are those it was sent with, and the
sink is given its payload. -/
theorem wholeDataPacketIsDelivered : Obligations.WholeDataPacketIsDelivered := by
  unfold Obligations.WholeDataPacketIsDelivered
  intro s payload rest h hi hlen heot hexp hsink hc
  obtain ⟨b, pv, hrun⟩ := runSteps_pktRaw s _ _ payload _ rest h hi hlen hc
  have hw := hi.buffers.pbuf
  have hv := (validated_holdingPacket_iff (pv := pv) (rest := rest) hlen hw).2 ⟨rfl, heot, rfl, rfl⟩
  rw [concluded, completePacket_delivered _ hv (by rwa [holdingPacket_seqByte hlen hw]) hsink,
    holdingPacket_psize hlen, holdingPacket_payloadOf hlen hw] at hrun
  refine ⟨_, hrun, finishRecv_outs b .rxOk _ (hi.framer h.initDone).drained, by simp, ?_, runSteps_inv _ _ _ hi hrun,
    by simp⟩
  exact ⟨by simp [h.noFault], by simp [h.initDone], by simp [stickyOf, h.nominal], by simp⟩

end Sys2Proof.Machine
end

section
/-! PROOFS. The Checksum Engine (41_checksum_engine.md): a shift of the register is multiplication by x modulo the
generator, so it is linear over GF(2) and, the generator having a nonzero x^0 term, injective. The direct form (R102)
and the properties of R104 follow from the two. -/

namespace Sys2Proof.Machine

/-! ### Shifts of the register -/

theorem crcDirectShifts_one (r : Crc) :
    crcDirectShifts 1 r = (r <<< 1) ^^^ (if r.msb then Config.poly else 0x0000#16) := by
  cases h : r.msb <;> simp [crcDirectShifts, h]

theorem crcDirectShifts_succ (n : Nat) (r : Crc) :
    crcDirectShifts (n + 1) r = crcDirectShifts n (crcDirectShifts 1 r) := by
  cases h : r.msb <;> simp [crcDirectShifts, h]

theorem crcDirectShifts_add (n k : Nat) (r : Crc) :
    crcDirectShifts (n + k) r = crcDirectShifts k (crcDirectShifts n r) := by
  induction n generalizing r with
  | zero => rw [Nat.zero_add, crcDirectShifts]
  | succ n ih => rw [Nat.add_right_comm, crcDirectShifts_succ, ih, ← crcDirectShifts_succ]

/-- 41_checksum_engine.md R104: one shift is linear over GF(2). -/
theorem crcDirectShifts_one_xor (a b : Crc) :
    crcDirectShifts 1 (a ^^^ b) = crcDirectShifts 1 a ^^^ crcDirectShifts 1 b := by
  have hpoly : (if (a ^^^ b).msb then Config.poly else 0x0000#16) =
      (if a.msb then Config.poly else 0x0000#16) ^^^ (if b.msb then Config.poly else 0x0000#16) := by
    rw [BitVec.msb_xor]
    cases a.msb <;> cases b.msb <;> decide
  rw [crcDirectShifts_one, crcDirectShifts_one, crcDirectShifts_one, hpoly, BitVec.shiftLeft_xor_distrib]
  ac_rfl

theorem crcDirectShifts_xor (n : Nat) (a b : Crc) :
    crcDirectShifts n (a ^^^ b) = crcDirectShifts n a ^^^ crcDirectShifts n b := by
  induction n generalizing a b with
  | zero => rfl
  | succ n ih => rw [crcDirectShifts_succ, crcDirectShifts_one_xor, ih, ← crcDirectShifts_succ, ← crcDirectShifts_succ]

@[simp] theorem crcDirectShifts_zero_reg (n : Nat) : crcDirectShifts n 0x0000#16 = 0x0000#16 := by
  simpa using crcDirectShifts_xor n 0x0000#16 0x0000#16

/-- The low bit of a shifted register is the bit that was shifted out: the generator's x^0 term. -/
theorem getLsbD_zero_crcDirectShifts_one (r : Crc) : (crcDirectShifts 1 r).getLsbD 0 = r.msb := by
  rw [crcDirectShifts_one, BitVec.getLsbD_xor, BitVec.getLsbD_shiftLeft]
  cases r.msb <;> simp [Config.poly]

theorem crcDirectShifts_one_injective : Function.Injective (crcDirectShifts 1) := by
  intro a b h
  have hmsb : a.msb = b.msb := by
    rw [← getLsbD_zero_crcDirectShifts_one, h, getLsbD_zero_crcDirectShifts_one]
  have hlow : a <<< 1 = b <<< 1 := by
    rwa [crcDirectShifts_one, crcDirectShifts_one, hmsb, BitVec.xor_left_inj] at h
  rw [BitVec.msb_eq_decide, BitVec.msb_eq_decide, decide_eq_decide] at hmsb
  bv_omega

theorem crcDirectShifts_injective (n : Nat) : Function.Injective (crcDirectShifts n) := by
  induction n with
  | zero => exact fun _ _ h => h
  | succ n ih =>
    intro a b h
    rw [crcDirectShifts_succ, crcDirectShifts_succ n b] at h
    exact crcDirectShifts_one_injective (ih h)

/-! ### Bits and bytes through the register -/

theorem shiftIn_eq_xor (r : Crc) (bit : Bool) : shiftIn r bit = (r <<< 1) ^^^ (BitVec.ofBool bit).setWidth 16 := by
  ext k hk
  cases k <;> simp [shiftIn]

/-- 41_checksum_engine.md R100: the register is shifted, and the new bit enters at x^0. -/
theorem crcBits_cons (r : Crc) (bit : Bool) (rest : List Bool) :
    crcBits r (bit :: rest) = crcBits (crcDirectShifts 1 r ^^^ (BitVec.ofBool bit).setWidth 16) rest := by
  rw [crcDirectShifts_one, crcBits, shiftIn_eq_xor]
  split
  · congr 1
    ac_rfl
  · rw [BitVec.xor_zero]

theorem crcBits_append (r : Crc) (bs cs : List Bool) : crcBits r (bs ++ cs) = crcBits (crcBits r bs) cs := by
  induction bs generalizing r with
  | nil => rfl
  | cons b bs ih => rw [List.cons_append, crcBits_cons, crcBits_cons, ih]

/-- What the register held before the bits and the bits themselves contribute independently. -/
theorem crcBits_eq_xor (r : Crc) (bs : List Bool) :
    crcBits r bs = crcDirectShifts bs.length r ^^^ crcBits 0x0000#16 bs := by
  induction bs generalizing r with
  | nil => exact BitVec.xor_zero.symm
  | cons b bs ih =>
    rw [crcBits_cons, crcBits_cons, ih, ih (crcDirectShifts 1 0x0000#16 ^^^ _), crcDirectShifts_zero_reg,
      crcDirectShifts_xor, BitVec.zero_xor, List.length_cons, crcDirectShifts_succ bs.length r, BitVec.xor_assoc]

theorem crcBits_injective (bs : List Bool) : Function.Injective fun r => crcBits r bs := by
  intro a b h
  dsimp only at h
  rw [crcBits_eq_xor a, crcBits_eq_xor b, BitVec.xor_left_inj] at h
  exact crcDirectShifts_injective _ h

/-- Eight bits do not reach the generator's degree: shifted into an empty register they stand there as they are. -/
theorem crcBits_msbFirst_of_zero (b : Byte) : crcBits 0x0000#16 (msbFirst b) = b.setWidth 16 := by
  revert b
  decide

/-- A byte in the low half of the register reaches the high half without a reduction. -/
theorem crcDirectShifts_setWidth (b : Byte) : crcDirectShifts 8 (b.setWidth 16) = b.setWidth 16 <<< 8 := by
  revert b
  decide

theorem crcBits_bitsOf_cons (r : Crc) (b : Byte) (m : List Byte) :
    crcBits r (bitsOf (b :: m)) = crcBits (crcDirectShifts 8 r ^^^ b.setWidth 16) (bitsOf m) := by
  rw [bitsOf, List.flatMap_cons, crcBits_append, crcBits_eq_xor r, crcBits_msbFirst_of_zero]
  rfl

theorem crcBits_bitsOf_append (r : Crc) (m n : List Byte) :
    crcBits r (bitsOf (m ++ n)) = crcBits (crcBits r (bitsOf m)) (bitsOf n) := by
  rw [bitsOf, List.flatMap_append, crcBits_append]
  rfl

theorem shiftLeft_xor_eq_append (h l : Byte) : (h.setWidth 16 <<< 8) ^^^ l.setWidth 16 = h ++ l := by
  apply BitVec.eq_of_getLsbD_eq
  intro k hk
  rw [BitVec.getLsbD_xor, BitVec.getLsbD_append]
  by_cases hlow : k < 8
  · simp [hlow, hk]
  · simp [hlow, hk, BitVec.getLsbD_of_ge l k (by omega)]

/-- Two bytes through the register: sixteen shifts, and the bytes added high byte first. -/
theorem crcBits_bitsOf_pair (r : Crc) (h l : Byte) :
    crcBits r (bitsOf [h, l]) = crcDirectShifts 16 r ^^^ (h ++ l) := by
  rw [crcBits_bitsOf_cons, crcBits_bitsOf_cons, crcDirectShifts_xor, crcDirectShifts_setWidth, BitVec.xor_assoc,
    shiftLeft_xor_eq_append, ← crcDirectShifts_add]
  rfl

/-- 41_checksum_engine.md R100: the sixteen zero bits behind the sequence are sixteen shifts. -/
theorem crc16_eq_shifts (m : List Byte) : crc16 m = crcDirectShifts 16 (crcBits 0x0000#16 (bitsOf m)) := by
  rw [crc16, crcBits_bitsOf_append, crcBits_bitsOf_pair]
  exact BitVec.xor_zero

/-! ### The checksum of a sequence -/

/-- The direct form's register runs sixteen shifts ahead of the augmented form's. -/
theorem crcDirectFrom_shifts (r : Crc) (m : List Byte) :
    crcDirectFrom (crcDirectShifts 16 r) m = crcDirectShifts 16 (crcBits r (bitsOf m)) := by
  induction m generalizing r with
  | nil => rfl
  | cons b m ih =>
    have hstep : crcDirectShifts 8 (crcDirectShifts 16 r ^^^ (b.setWidth 16 <<< 8)) =
        crcDirectShifts 16 (crcDirectShifts 8 r ^^^ b.setWidth 16) := by
      rw [crcDirectShifts_xor, crcDirectShifts_xor, ← crcDirectShifts_setWidth, ← crcDirectShifts_add,
        ← crcDirectShifts_add, ← crcDirectShifts_add]
    rw [crcDirectFrom, hstep, ih, crcBits_bitsOf_cons]

/-- Settles O40: the two registers agree at the start, both being 0, and from there on the direct one is the other
sixteen shifts ahead, which the augmentation makes up for. -/
theorem checksumFormsAgree : Obligations.ChecksumFormsAgree := by
  unfold Obligations.ChecksumFormsAgree
  intro m
  rw [crc16_eq_shifts, ← crcDirectFrom_shifts, crcDirectShifts_zero_reg]
  rfl

/-- Settles O41: the trailer's two bytes are added to what sixteen shifts make of the register, which is the checksum
itself, and the register is left 0. -/
theorem checksumResidueIsZero : Obligations.ChecksumResidueIsZero := by
  unfold Obligations.ChecksumResidueIsZero
  intro m
  have htrailer (c : Crc) : c.extractLsb' 8 8 ++ c.extractLsb' 0 8 = c := by
    simpa using BitVec.extractLsb'_append_extractLsb' (w := 8) (len := 8) (x := c)
  rw [crc16_eq_shifts (m ++ _), crcBits_bitsOf_append, crcTrailer, crcBits_bitsOf_pair, htrailer, crc16_eq_shifts m,
    BitVec.xor_self, crcDirectShifts_zero_reg]

/-- Where one byte of a sequence enters its checksum. -/
theorem crc16_append_singleton_append (pre post : List Byte) (b : Byte) :
    crc16 (pre ++ [b] ++ post) = crcDirectShifts 16
      (crcBits (crcDirectShifts 8 (crcBits 0x0000#16 (bitsOf pre)) ^^^ b.setWidth 16) (bitsOf post)) := by
  rw [crc16_eq_shifts, List.append_assoc, crcBits_bitsOf_append, List.singleton_append, crcBits_bitsOf_cons]

/-- Settles O42: the two sequences leave different registers behind the changed byte, and the bytes after it, like the
augmentation, keep different registers different. -/
theorem checksumDetectsOneByte : Obligations.ChecksumDetectsOneByte := by
  unfold Obligations.ChecksumDetectsOneByte
  intro pre post x y hne heq
  rw [crc16_append_singleton_append, crc16_append_singleton_append] at heq
  have hreg := crcBits_injective _ (crcDirectShifts_injective 16 heq)
  rw [BitVec.xor_right_inj] at hreg
  exact hne (by simpa using congrArg (BitVec.setWidth 8) hreg)

theorem crcBits_zero_of_zeros (n : Nat) : crcBits 0x0000#16 (bitsOf (List.replicate n 0x00#8)) = 0x0000#16 := by
  induction n with
  | zero => rfl
  | succ n ih =>
    rw [List.replicate_succ, crcBits_bitsOf_cons, crcDirectShifts_zero_reg]
    exact ih

/-- Settles O43: zero bytes leave a zero register zero, and so does the augmentation. -/
theorem checksumOfZerosIsZero : Obligations.ChecksumOfZerosIsZero := by
  unfold Obligations.ChecksumOfZerosIsZero
  intro n
  rw [crc16_eq_shifts, crcBits_zero_of_zeros, crcDirectShifts_zero_reg]

end Sys2Proof.Machine
end

section
/-! PROOFS. Packets that fail a check (44_packet_validator.md R141, R143, R144, R147): received whole before EOT, they
are answered NAK, and the block awaits the next packet with `EXP_SEQ` as it was. -/

namespace Sys2Proof.Machine

theorem completePacket_of_not_validated {s : State} (h : ¬ Validated s) (heot : s.eotSeen = false) :
    completePacket s = (.rxError, s) := by
  obtain hrej | ⟨hend, -⟩ | ⟨hv, -⟩ := completePacket_cases s
  · exact hrej
  · exact absurd (heot.symm.trans hend) (by decide)
  · exact absurd hv h

/-- A whole `PKTRAW` that fails the complement, the sequence or the checksum check before EOT. -/
theorem runSteps_rejectedPacket (s : State) (seq cseq : Byte) (payload : List Byte) (crc : Crc) (rest : List Request)
    (h : s.AwaitingHeader) (hi : s.Inv) (hlen : payload.length = 128 ∨ payload.length = 1024)
    (heot : s.eotSeen = false) (hbad : ¬ (cseq = seq ^^^ 0xFF#8 ∧ seq = s.expSeq ∧ crc16 payload = crc))
    (hc : s.commands = bytesCommands (pktRaw (leadFor payload.length) seq cseq payload crc) ++ rest) :
    ∃ t, runSteps (payload.length + 5) s = .next t ∧
      t.outs = [.transmit [0x15#8], .status .rxError] ∧ t.expSeq = s.expSeq ∧ t.AwaitingHeader ∧
      t.commands = rest := by
  obtain ⟨b, pv, hrun⟩ := runSteps_pktRaw s seq cseq payload crc rest h hi hlen hc
  have hv : ¬ Validated (holdingPacket seq cseq payload crc pv rest s) := by
    rw [validated_holdingPacket_iff hlen hi.buffers.pbuf]
    exact fun ⟨hcompl, _, hseq, hsum⟩ => hbad ⟨hcompl, hseq, hsum⟩
  rw [concluded, completePacket_of_not_validated hv heot] at hrun
  refine ⟨_, hrun, finishRecv_outs b .rxError _ (hi.framer h.initDone).drained, by simp, ?_, by simp⟩
  exact ⟨by simp [h.noFault], by simp [h.initDone], by simp [stickyOf, h.nominal], by simp⟩

/-- Settles O58: the changed byte changes the checksum of the payload, so the checksum check fails. -/
theorem oneCorruptedByteIsAnsweredNak : Obligations.OneCorruptedByteIsAnsweredNak := by
  unfold Obligations.OneCorruptedByteIsAnsweredNak
  intro s pre post x y rest h hi hsize heot hne hc
  have hlen : (pre ++ [y] ++ post).length = pre.length + post.length + 1 := by
    simp only [List.length_append, List.length_singleton]
    omega
  rw [← hlen] at hc
  have hrun := runSteps_rejectedPacket s _ _ _ _ rest h hi (by omega) heot
    (fun ⟨_, _, hsum⟩ => checksumDetectsOneByte pre post x y hne hsum.symm) hc
  rwa [hlen] at hrun

end Sys2Proof.Machine
end

section
/-! PROOFS. The Decimal Parser (42_decimal_parser.md R110 to R115): the loop accepts exactly the strings of digits, and
reducing modulo `2 ^ 32` at each step is reducing the decimal value once at the end (R114). -/

namespace Sys2Proof.Machine

theorem isDigit_iff (c : Byte) : isDigit c = true ↔ 0x30 ≤ c.toNat ∧ c.toNat ≤ 0x39 := by
  simp [isDigit]

/-- The accumulator is `n` modulo `2 ^ 32`, and `BitVec.ofNat` commutes with the loop's multiplication and addition. -/
theorem decDigits_of_digits (t : List Byte) (n : Nat) (hdigits : ∀ c ∈ t, isDigit c = true) :
    decDigits (BitVec.ofNat 32 n) t =
      some (BitVec.ofNat 32 (t.foldl (fun v c => v * 10 + digitValue c) n)) := by
  induction t generalizing n with
  | nil => rfl
  | cons c t ih =>
    obtain ⟨hc, ht⟩ := List.forall_mem_cons.mp hdigits
    have hstep : BitVec.ofNat 32 n * 10#32 + BitVec.ofNat 32 (digitValue c) =
        BitVec.ofNat 32 (n * 10 + digitValue c) := by
      rw [BitVec.ofNat_add, BitVec.ofNat_mul]
    rw [decDigits, if_pos hc, hstep, ih _ ht, List.foldl_cons]

theorem decDigits_of_nonDigit (t : List Byte) (v : FileSize) (hbad : ¬ ∀ c ∈ t, isDigit c = true) :
    decDigits v t = none := by
  induction t generalizing v with
  | nil => exact absurd (List.forall_mem_nil _) hbad
  | cons c t ih =>
    rw [decDigits]
    split
    case isTrue hc => exact ih _ fun ht => hbad (List.forall_mem_cons.mpr ⟨hc, ht⟩)
    case isFalse => rfl

theorem decParse_of_digits (t : List Byte) (hlen : t.length ≤ 10) (hdigits : ∀ c ∈ t, isDigit c = true) :
    decParse t = some (BitVec.ofNat 32 (decimalValue t)) := by
  have hle : ¬ t.length > Config.decMaxDigits := Nat.not_lt.mpr hlen
  rw [decParse, if_neg hle]
  exact decDigits_of_digits t 0 hdigits

theorem decParse_of_tooLong_or_nonDigit (t : List Byte) (hbad : ¬ (t.length ≤ 10 ∧ ∀ c ∈ t, isDigit c = true)) :
    decParse t = none := by
  rw [decParse]
  split
  case isTrue => rfl
  case isFalse hlen => exact decDigits_of_nonDigit t _ fun hdigits => hbad ⟨Nat.not_lt.mp hlen, hdigits⟩

/-- Settles O39: the parser's two cases, with `isDigit` read as the byte range of R112. -/
theorem decimalParserValue : Obligations.DecimalParserValue := by
  unfold Obligations.DecimalParserValue
  intro t
  simp only [← isDigit_iff]
  exact ⟨fun ⟨hlen, hdigits⟩ => decParse_of_digits t hlen hdigits, decParse_of_tooLong_or_nonDigit t⟩

end Sys2Proof.Machine
end

section
/-! PROOFS. The Byte Framer (43_byte_framer.md R121 to R131): the header rows and the two body rows with their full next
state, the assembly of a run of bytes, and what every command makes of `PREV`. -/

namespace Sys2Proof.Machine

/-! ### Assembling a packet -/

/-- Settles O55: the block after the run is `assembled`, which writes the bytes one after another from `CNT` on. -/
theorem assemblyStoresEveryByte : Obligations.AssemblyStoresEveryByte := by
  unfold Obligations.AssemblyStoresEveryByte
  intro bs s rest h hi hne hlen hc
  obtain ⟨hl, -, -⟩ := (hi.framer h.initDone).assembling h.accumulating
  have hp := psize_toNat_le s.psize hl
  have hcap : s.cnt.toNat + bs.length ≤ Config.pbufCap := by
    change _ ≤ 1029
    omega
  have hrun := runSteps_body bs rest s h hi hlen hc
  rw [assembled, if_neg hne] at hrun
  refine ⟨_, _, hrun, ?_, fun k hk => read_writeAll _ bs _ _ k hk hcap hi.buffers.pbuf,
    fun j hj => read_writeAll_outside bs _ _ j hj⟩
  rw [List.getLast?_eq_some_getLast hne, List.getLastD_eq_getLast?, List.getLast?_eq_some_getLast hne, Option.getD_some]

/-- Settles O27: one byte assembled is a write of that byte at offset `CNT`. -/
theorem bodyByteIsStored : Obligations.BodyByteIsStored := by
  unfold Obligations.BodyByteIsStored
  intro s b h hi hlt
  have hrun := recvBody_run s b h hlt (cnt_lt_pbufCap s h hi)
  rw [finishRecv_body b s (hi.framer h.initDone).drained] at hrun
  exact ⟨_, hrun, read_write_same _ 0 _ hi.buffers.pbuf _ b, fun j hj => read_write_ne _ _ j b hj⟩

/-! ### The header rows -/

/-- The end of a processed RECV as one update of the state (43_byte_framer.md R130, 46_response_generator.md R180,
47_entry_points.md R203). -/
theorem finishRecv_eq (b : Byte) (o : Status) (s : State) (h0 : s.olen = 0) :
    finishRecv b o s = { s with
      term := (stickyOf o).getD s.term
      prev := b
      obuf := s.obuf.writeAll 0 (replyOf o)
      olen := 0
      outs := s.outs ++ transmitted (replyOf o) ++ [.status o] } := by
  apply State.ext
  case obuf => rw [finishRecv_obuf, h0]
  case outs => exact finishRecv_outs b o s h0
  all_goals rfl

/-- A header row executed in AwaitingHeader answers its own effect. -/
theorem headerRow_next {s t u : State} {i : Instr} (h : s.AwaitingHeader) (hw : i.wf = true)
    (hs : i.selectedIn .header = true) (hu : u = t) : recvRow i s (.next u) = .next t :=
  (headerRow_run s h i hw hs _).trans (congrArg Host.Outcome.next hu)

/-- A reply of one byte leaves `OBUF` alone from offset 1 on. -/
theorem read_writeAll_singleton (m : Memory) (b : Byte) (j : Nat) (hj : 1 ≤ j) :
    (m.writeAll 0 [b]).read j = m.read j :=
  read_writeAll_outside [b] m 0 j (.inr hj)

/-- Settles O21: the framer's action of either leading byte, then the end of a RECV with an empty reply. -/
theorem leadingByteStartsPacket : Obligations.LeadingByteStartsPacket := by
  unfold Obligations.LeadingByteStartsPacket
  exact fun s h => ⟨headerRow_next h rfl rfl (finishRecv_eq _ .ok _ rfl),
    headerRow_next h rfl rfl (finishRecv_eq _ .ok _ rfl)⟩

/-- Settles O22: the reply ACK C takes the first two bytes of `OBUF`. -/
theorem eotIsMarkedAndAcknowledged : Obligations.EotIsMarkedAndAcknowledged := by
  unfold Obligations.EotIsMarkedAndAcknowledged
  exact fun s h => ⟨_, headerRow_next h rfl rfl (finishRecv_eq _ .rxComplete _ rfl),
    read_writeAll_reply .rxComplete s.obuf⟩

/-- Settles O23: the row tests `PREV`, and only the confirmed cancel notifies and replies. -/
theorem cancelNeedsConfirmation : Obligations.CancelNeedsConfirmation := by
  unfold Obligations.CancelNeedsConfirmation
  intro s h
  constructor
  · intro hp
    exact ⟨_, headerRow_next h rfl rfl ((if_pos hp).trans (finishRecv_eq _ .aborted _ rfl)),
      read_writeAll_singleton s.obuf Config.crcReq⟩
  · intro hp
    exact headerRow_next h rfl rfl ((if_neg hp).trans (finishRecv_eq _ .ok _ rfl))

/-- Settles O24: both rows end with the same outcome, so with the same reply. -/
theorem userAbortByteAborts : Obligations.UserAbortByteAborts := by
  unfold Obligations.UserAbortByteAborts
  exact fun s h => ⟨_, read_writeAll_reply .abort s.obuf, headerRow_next h rfl rfl (finishRecv_eq _ .abort _ rfl),
    headerRow_next h rfl rfl (finishRecv_eq _ .abort _ rfl)⟩

/-- 30_encoding.md R75: the row of the other header bytes takes exactly the bytes that are not named. -/
theorem recvHdrOther_wf_iff (b : Byte) :
    (Instr.recvHdrOther b).wf = true ↔ b ∉ [0x01#8, 0x02#8, 0x04#8, 0x18#8, 0x41#8, 0x61#8] := by
  simp [Instr.wf, isNamedHeaderByte, Config.soh, Config.stx, Config.eot, Config.can, Config.upperA, Config.lowerA,
    and_assoc]

/-- Settles O25: a byte that is not named is one the row takes, and the outcome is RX_ERROR. -/
theorem unrecognizedByteIsAnsweredNak : Obligations.UnrecognizedByteIsAnsweredNak := by
  unfold Obligations.UnrecognizedByteIsAnsweredNak
  exact fun s b h hb => ⟨_, headerRow_next h ((recvHdrOther_wf_iff b).2 hb) rfl (finishRecv_eq b .rxError _ rfl),
    read_writeAll_singleton s.obuf Config.nak⟩

/-! ### The last byte of a packet -/

theorem mem_sinkEvents_iff (e : SinkEvent) (outs : List PortEvent) :
    e ∈ sinkEvents outs ↔ PortEvent.notify e ∈ outs := by
  unfold sinkEvents
  rw [List.mem_filterMap]
  constructor
  · rintro ⟨o, ho, he⟩
    cases o with
    | notify => cases he; exact ho
    | transmit | status => cases he
  · exact fun h => ⟨_, h, rfl⟩

/-- 45_dispatcher_metadata.md R166, R167: the completion of a packet writes the metadata only when it announces them. -/
theorem completePacket_metadata (s : State) :
    ((completePacket s).2.fsize = s.fsize ∧ (completePacket s).2.fname = s.fname ∧
      (completePacket s).2.fsizeTxt = s.fsizeTxt) ∨
    ∃ n z, PortEvent.notify (.name n z) ∈ (completePacket s).2.outs := by
  have h := completePacket_completed s
  generalize completePacket s = r at h
  cases h with
  | accepted _ _ d => exact .inr ⟨d.name, d.size, by simp⟩
  | refused _ _ d => exact .inr ⟨d.name, d.size, by simp⟩
  | _ => exact .inl ⟨rfl, rfl, rfl⟩

/-- What the end of a RECV does at the ports stands behind what the framer notified. -/
theorem mem_finishRecv_outs (b : Byte) (o : Status) (s : State) (e : PortEvent) (he : e ∈ s.outs) :
    e ∈ (finishRecv b o s).outs := by
  simp only [finishRecv, returnStatus_outs, endCommand_outs]
  split <;> simp [he]

/-- The block after the last byte of a packet: AwaitingHeader with the packet cleared; `PSIZE`, `EOT_SEEN`, `INIT_DONE`,
the configuration, the fault mark and the command port are not the completion's to change. -/
theorem concluded_registers (b : Byte) (s : State) :
    (concluded b s).await = true ∧ (concluded b s).cnt = 0#11 ∧ (concluded b s).psize = s.psize ∧
    (concluded b s).prev = b ∧ (concluded b s).olen = 0 ∧ (concluded b s).eotSeen = s.eotSeen ∧
    (concluded b s).initDone = s.initDone ∧ (concluded b s).params = s.params ∧
    (concluded b s).faultMark = s.faultMark ∧ (concluded b s).commands = s.commands := by
  obtain ⟨hinit, -, heot, hpsize, -, -, hmark, hparams, hcommands⟩ := completePacket_frame s
  exact ⟨rfl, rfl, hpsize, rfl, rfl, heot, hinit, hparams, hmark, hcommands⟩

/-- The reply to the last byte of a packet takes at most the first two bytes of `OBUF`. -/
theorem read_concluded_obuf (b : Byte) (s : State) (h0 : s.olen = 0) (j : Nat) (hj : 2 ≤ j) :
    (concluded b s).obuf.read j = s.obuf.read j := by
  obtain ⟨-, -, -, -, hobuf, holen, -⟩ := completePacket_frame s
  rw [concluded, finishRecv_obuf, clearPacket_obuf, clearPacket_olen, holen, h0, hobuf, read_writeAll_reply _ _ j hj]

/-- The metadata stay unless the sink was told a NAME. -/
theorem concluded_metadata (b : Byte) (s : State)
    (hn : ∀ n z, SinkEvent.name n z ∉ sinkEvents (concluded b s).outs) :
    (concluded b s).fsize = s.fsize ∧ (concluded b s).fname = s.fname ∧ (concluded b s).fsizeTxt = s.fsizeTxt := by
  obtain h | ⟨n, z, h⟩ := completePacket_metadata s
  · exact h
  · exact absurd ((mem_sinkEvents_iff _ _).2 (mem_finishRecv_outs b _ (clearPacket _) _ h)) (hn n z)

/-- Settles O28: the byte is stored, the packet is concluded, and both leave everything else as it was. -/
theorem lastByteReturnsToHeader : Obligations.LastByteReturnsToHeader := by
  unfold Obligations.LastByteReturnsToHeader
  intro s b h hle hlt
  have hrun : exec (.recvBodyLast b) s = .next (concluded b (storeByte b (beginRecv s))) :=
    recvBodyLast_run s b h hle hlt
  obtain ⟨hawait, hcnt, hpsize, hprev, holen, heot, hinit, hparams, hmark, hcommands⟩ :=
    concluded_registers b (storeByte b (beginRecv s))
  refine ⟨_, hrun, hawait, hcnt, hpsize, hprev, holen, heot, hinit, hparams, hmark.trans h.noFault, hcommands,
    read_empty, read_concluded_obuf b _ rfl, fun hn => ?_⟩
  obtain ⟨hfsize, hfname, htxt⟩ := concluded_metadata b _ hn
  exact ⟨hfsize, fun j => congrArg (Memory.read · j) hfname, fun j => congrArg (Memory.read · j) htxt⟩

/-! ### `PREV` -/

theorem nominal_of_phase (s : State) (hu : s.phase ≠ .uninitialized) (hs : s.phase ≠ .sticky) : s.term = .nominal :=
  by_contra fun h => hs ((phase_sticky_iff s).2 ⟨initDone_of_phase s hu, h⟩)

/-- In a state that meets the invariant no packet byte falls outside `PBUF`. -/
theorem cnt_lt_pbufCap_of_phase (s : State) (hm : s.faultMark = none) (h : s.Inv)
    (hp : s.phase = .body ∨ s.phase = .bodyLast) : s.cnt.toNat < Config.pbufCap := by
  obtain hp | hp := hp
  · obtain ⟨hi, hn, ha, -⟩ := (phase_body_iff s).1 hp
    exact cnt_lt_pbufCap s ⟨hm, hi, hn, ha⟩ h
  · obtain ⟨hi, hn, ha, -⟩ := (phase_bodyLast_iff s).1 hp
    exact cnt_lt_pbufCap s ⟨hm, hi, hn, ha⟩ h

/-- 10_state.md R28: what a command leaves in `PREV`, for the four kinds of command. -/
structure PrevRule (s : State) (i : Instr) (t : State) : Prop where
  processed : i.op = 0b00#2 → s.term = .nominal → t.prev = i.data
  sticky : i.op = 0b00#2 → s.term ≠ .nominal → t.prev = s.prev
  abort : i = .abort → t.prev = s.prev
  reset : i = .reset → t.prev = 0x00#8

/-- A RECV row that ends with its own byte in `PREV`, in a phase in which `TERM` is NOMINAL. -/
theorem PrevRule.of_processed {s t : State} {i : Instr} (ho : i.op = 0b00#2) (hu : s.phase ≠ .uninitialized)
    (hs : s.phase ≠ .sticky) (ht : t.prev = i.data) : PrevRule s i t where
  processed _ _ := ht
  sticky _ h := absurd (nominal_of_phase s hu hs) h
  abort h := by subst h; cases ho
  reset h := by subst h; cases ho

theorem execNext_prevRule (s t : State) (i : Instr) (hm : s.faultMark = none) (hi : s.initDone = true) (h : s.Inv)
    (hx : ExecNext s i t) : PrevRule s i t := by
  cases hx with
  | uninitialized _ _ h0 => exact absurd (hi.symm.trans h0) (by decide)
  | firstInit h0 => exact absurd (hi.symm.trans h0) (by decide)
  | outside _ hc hp => exact absurd (cnt_lt_pbufCap_of_phase s hm h (hp.imp And.left And.left)) hc
  | laterInit => exact ⟨nofun, nofun, nofun, nofun⟩
  | reset => exact ⟨nofun, nofun, nofun, fun _ => rfl⟩
  | abort => exact ⟨nofun, nofun, fun _ => rfl, nofun⟩
  | sticky b hp => exact ⟨fun _ hn => absurd hn ((phase_sticky_iff s).1 hp).2, fun _ _ => rfl, nofun, nofun⟩
  | soh hp | stx hp | eot hp | firstCan hp | secondCan hp | upper hp | lower hp | other _ hp | body _ hp
  | bodyLast _ hp => exact .of_processed rfl (by simp [hp]) (by simp [hp]) rfl

/-- 30_encoding.md R72, R73: an initialized block fetches every RECV word. -/
theorem fetch_recv_ne_error (s : State) (w : CmdWord) (f : Fault) (hi : s.initDone = true) (ho : opField w = 0b00#2) :
    fetch (request w) s ≠ .error f := by
  have hu : s.phase ≠ .uninitialized := fun hp => absurd (hi.symm.trans ((phase_uninitialized_iff s).1 hp)) (by decide)
  have hd : ∃ i, decode s.phase w = .ok i := by
    rw [decode_of_recv _ w ho]
    cases hp : s.phase with
    | uninitialized => exact absurd hp hu
    | sticky | header | body | bodyLast => exact ⟨_, rfl⟩
  obtain ⟨i, hd⟩ := hd
  rw [fetch_of_decode (request w) s i rfl hd]
  nofun

/-- Settles O51: no RECV and no RESET faults in such a state, and the decoder answers the word's own byte. -/
theorem processedByteBecomesPrev : Obligations.ProcessedByteBecomesPrev := by
  unfold Obligations.ProcessedByteBecomesPrev
  intro s t w rest hc hi h hs
  obtain ⟨hm, -⟩ := step_next s t hs
  cases step_stepNext s t hs with
  | idle hidle => exact absurd (hc.symm.trans hidle) (List.cons_ne_nil _ _)
  | faulted r _ f hc' hf =>
    obtain ⟨rfl, -⟩ := List.cons.inj (hc.symm.trans hc')
    refine ⟨fun ho _ => absurd hf (fetch_recv_ne_error s w f hi ho), fun _ _ => rfl, fun _ => rfl, ?_⟩
    rintro rfl
    have hok := fetch_of_decode (request resetWord) s .reset rfl (decode_resetWord s.phase)
    cases hok.symm.trans hf
  | ran r _ i _ hc' _ hd hx =>
    obtain ⟨rfl, -⟩ := List.cons.inj (hc.symm.trans hc')
    replace hd : decode s.phase w = .ok i := hd
    obtain ⟨hop, hdata⟩ := decode_fields s.phase w i hd
    have hprev := execNext_prevRule (takeCommand s) t i hm hi (takeCommand_inv s h) hx
    refine ⟨fun ho hn => (hprev.processed (hop.trans ho) hn).trans hdata,
      fun ho hn => hprev.sticky (hop.trans ho) hn, ?_, ?_⟩
    · rintro rfl
      rw [decode_abortWord] at hd
      exact hprev.abort (Except.ok.inj hd).symm
    · rintro rfl
      rw [decode_resetWord] at hd
      exact hprev.reset (Except.ok.inj hd).symm

end Sys2Proof.Machine
end

section
/-! PROOFS. The Packet Validator (44_packet_validator.md R140 to R147): what the last byte of a packet makes of the block
when a check fails and when the packet closes the session, a whole retransmitted packet, and what every step that returns
RX_ERROR leaves as it was. -/

namespace Sys2Proof.Machine

/-! ### A retransmission -/

/-- Settles O57: received whole, the packet fails the sequence check and no other. -/
theorem retransmissionIsNotDelivered : Obligations.RetransmissionIsNotDelivered := by
  unfold Obligations.RetransmissionIsNotDelivered
  intro s payload rest h hi hlen heot hc
  exact runSteps_rejectedPacket s _ _ payload _ rest h hi hlen heot
    (fun ⟨_, hseq, _⟩ => absurd (sub_eq_self.1 hseq) (by decide)) hc

/-! ### The first two checks, in the order of R145 -/

theorem completePacket_of_badComplement {s : State} (h : complementOk (seqByte s.pbuf) (cseqByte s.pbuf) ≠ true) :
    completePacket s = (.rxError, s) := by
  rw [completePacket, if_pos (Bool.eq_false_iff.2 h)]

theorem completePacket_of_closing {s : State} (h : complementOk (seqByte s.pbuf) (cseqByte s.pbuf) = true)
    (heot : s.eotSeen = true) : completePacket s = (.success, notify .sessionEnd s) := by
  rw [completePacket, if_neg (by simp [h]), if_pos heot]

/-- The last byte of a packet stands behind the two bytes of the complement check, so it leaves them alone. -/
theorem complementOk_storeByte_iff (s : State) (b : Byte) (hc : s.cnt.toNat = s.psize.toNat + 4) :
    complementOk (seqByte (storeByte b s).pbuf) (cseqByte (storeByte b s).pbuf) = true ↔
      s.pbuf.read 2 = s.pbuf.read 1 ^^^ 0xFF#8 := by
  have hbefore (j : Nat) (hj : j < 4) : (storeByte b s).pbuf.read j = s.pbuf.read j :=
    read_write_ne _ _ _ _ (by omega)
  rw [seqByte, cseqByte, hbefore 1 (by decide), hbefore 2 (by decide)]
  exact beq_iff_eq

/-! ### The last byte of a packet as one update of the state -/

theorem beginRecv_of_drained (s : State) (h0 : s.olen = 0) : beginRecv s = beginCommand s := by
  apply State.ext
  case olen => exact h0.symm
  all_goals rfl

theorem finishRecv_of_drained (b : Byte) (o : Status) (s : State) (h0 : s.olen = 0) :
    finishRecv b o s = { s with
      term := (stickyOf o).getD s.term
      prev := b
      obuf := s.obuf.writeAll 0 (replyOf o)
      outs := s.outs ++ transmitted (replyOf o) ++ [.status o] } := by
  rw [finishRecv_eq b o s h0, ← h0]

/-- The byte that completes a packet, with (o, u) the answer of the checks (43_byte_framer.md R128 to R130). -/
theorem bodyLast_next {s u : State} {b : Byte} {o : Status} (h : s.OneByteLeft)
    (hu : completePacket (storeByte b (beginCommand s)) = (o, u)) :
    exec (.recvBodyLast b) s = .next { clearPacket u with
      term := (stickyOf o).getD u.term
      prev := b
      obuf := u.obuf.writeAll 0 (replyOf o)
      outs := u.outs ++ transmitted (replyOf o) ++ [.status o] } := by
  have h0 : s.olen = 0 := (h.inv.framer h.accumulating.initDone).drained
  have hdrained : u.olen = 0 := by
    have holen := completePacket_olen (storeByte b (beginCommand s))
    rw [hu] at holen
    exact holen.trans h0
  rw [recvBodyLast_run s b h.accumulating h.last.ge (cnt_lt_pbufCap s h.accumulating h.inv),
    beginRecv_of_drained s h0, hu, finishRecv_of_drained b o (clearPacket u) hdrained]
  rfl

/-- A packet that the checks reject is answered NAK and discarded (R141, R143, R144). -/
theorem bodyLast_rejected {s : State} {b : Byte} (h : s.OneByteLeft)
    (hrej : completePacket (storeByte b (beginCommand s)) = (.rxError, storeByte b (beginCommand s))) :
    ∃ ob, exec (.recvBodyLast b) s = .next { s with
      pbuf := [], cnt := 0#11, await := true, prev := b, obuf := ob
      outs := [.transmit [0x15#8], .status .rxError] } ∧
      (∀ j, 1 ≤ j → ob.read j = s.obuf.read j) :=
  ⟨_, bodyLast_next h hrej, read_writeAll_singleton s.obuf Config.nak⟩

/-- Before EOT, a packet that fails the sequence or the checksum check. -/
theorem completePacket_of_failedCheck {s : State} {b : Byte} (h : s.OneByteLeft) (heot : s.eotSeen = false)
    (hbad : ¬ (s.pbuf.read 1 = s.expSeq ∧
      crc16 (s.pbuf.slice 3 s.psize.toNat) = s.pbuf.read (s.psize.toNat + 3) ++ b)) :
    completePacket (storeByte b (beginCommand s)) = (.rxError, storeByte b (beginCommand s)) := by
  refine completePacket_of_not_validated (fun hv => ?_) heot
  obtain ⟨-, -, hseq, hsum⟩ := (validated_storeByte_iff (beginCommand s) b h.inv.buffers.pbuf h.last).1 hv
  exact hbad ⟨hseq, hsum⟩

/-- Settles O29: the complement check comes first, so `EOT_SEEN` plays no part. -/
theorem badComplementIsAnsweredNak : Obligations.BadComplementIsAnsweredNak := by
  unfold Obligations.BadComplementIsAnsweredNak
  intro s b h hcompl
  exact bodyLast_rejected h (completePacket_of_badComplement
    fun hok => hcompl ((complementOk_storeByte_iff (beginCommand s) b h.last).1 hok))

/-- Settles O30: after EOT the complement is the only check. -/
theorem closingPacketCompletesSession : Obligations.ClosingPacketCompletesSession := by
  unfold Obligations.ClosingPacketCompletesSession
  intro s b h hcompl heot
  have hok := (complementOk_storeByte_iff (beginCommand s) b h.last).2 hcompl
  exact ⟨_, bodyLast_next h (completePacket_of_closing hok heot), read_writeAll_singleton s.obuf Config.ack⟩

/-- Settles O31: a packet with a wrong sequence byte is not validated. -/
theorem wrongSequenceIsAnsweredNak : Obligations.WrongSequenceIsAnsweredNak := by
  unfold Obligations.WrongSequenceIsAnsweredNak
  intro s b h _ heot hseq
  exact bodyLast_rejected h (completePacket_of_failedCheck h heot fun ⟨hok, _⟩ => hseq hok)

/-- Settles O32: a packet whose checksum differs from its trailer is not validated. -/
theorem wrongChecksumIsAnsweredNak : Obligations.WrongChecksumIsAnsweredNak := by
  unfold Obligations.WrongChecksumIsAnsweredNak
  intro s b h _ heot _ hsum
  exact bodyLast_rejected h (completePacket_of_failedCheck h heot fun ⟨_, hok⟩ => hsum hok)

/-! ### RX_ERROR -/

theorem status_not_mem_of_atMostOneNotified {outs : List PortEvent} (h : AtMostOneNotified outs) (c : Status) :
    PortEvent.status c ∉ outs := by
  obtain ⟨evs, rfl, -⟩ := h
  simp

theorem status_not_mem_transmitted (c : Status) (bs : List Byte) : PortEvent.status c ∉ transmitted bs := by
  unfold transmitted
  split <;> simp

/-- A processed RECV returns its outcome and no other code. -/
theorem status_of_mem_finishRecv_outs {b : Byte} {c o : Status} {s : State}
    (hc : PortEvent.status c ∈ (finishRecv b o s).outs) (h0 : s.olen = 0) (hn : AtMostOneNotified s.outs) : c = o := by
  rw [finishRecv_outs b o s h0, List.mem_append, List.mem_append] at hc
  obtain (hc | hc) | hc := hc
  · exact absurd hc (status_not_mem_of_atMostOneNotified hn c)
  · exact absurd hc (status_not_mem_transmitted c _)
  · exact PortEvent.status.inj (List.mem_singleton.1 hc)

theorem stickyCode_ne_rxError (tm : Term) : stickyCode tm ≠ .rxError := by
  cases tm <;> decide

/-- RX_ERROR is the outcome of a rejected packet only, and the rejection changes nothing (R141, R143, R144). -/
theorem completePacket_of_rxError {s : State} (h : (completePacket s).1 = .rxError) :
    completePacket s = (.rxError, s) := by
  have hc := completePacket_completed s
  generalize completePacket s = r at h hc
  cases hc with
  | rejected => rfl
  | closed | batchEnd | malformed | accepted | refused | delivered | failed => cases h

/-- The two ways a command returns RX_ERROR: an unrecognized header byte (43_byte_framer.md R126) and a
rejected packet. -/
theorem execNext_rxError {s t : State} {i : Instr} (hx : ExecNext s i t) (hc : PortEvent.status .rxError ∈ t.outs) :
    ∃ b, (s.phase = .header ∧ t = finishRecv b .rxError (beginRecv s)) ∨
      (s.phase = .bodyLast ∧ t = finishRecv b .rxError (clearPacket (storeByte b (beginRecv s)))) := by
  cases hx with
  | uninitialized | outside => simp at hc
  | firstInit | laterInit | reset => exact absurd (List.mem_singleton.1 hc) (by decide)
  | abort => simp at hc
  | sticky => exact absurd (PortEvent.status.inj (List.mem_singleton.1 hc)).symm (stickyCode_ne_rxError _)
  | other b hp => exact ⟨b, .inl ⟨hp, rfl⟩⟩
  | soh | stx | eot | firstCan | upper | lower | body =>
    cases status_of_mem_finishRecv_outs hc rfl atMostOneNotified_nil
  | secondCan => cases status_of_mem_finishRecv_outs hc rfl (atMostOneNotified_notify _)
  | bodyLast b hp =>
    have ho := status_of_mem_finishRecv_outs hc (completePacket_olen _) (completePacket_atMostOneNotified _ rfl)
    rw [completePacket_of_rxError ho.symm]
    exact ⟨b, .inr ⟨hp, rfl⟩⟩

/-- The NAK and the status stand alone: the sink is told nothing. -/
theorem sinkEvents_finishRecv_rxError (b : Byte) (s : State) (h0 : s.olen = 0) (hquiet : s.outs = []) :
    sinkEvents (finishRecv b .rxError s).outs = [] := by
  rw [finishRecv_outs b .rxError s h0, hquiet]
  rfl

/-- Settles O54: the two ways to RX_ERROR end the RECV with a NAK on a block of which at most the packet was cleared. -/
theorem receiveErrorsAreRecoverable : Obligations.ReceiveErrorsAreRecoverable := by
  unfold Obligations.ReceiveErrorsAreRecoverable
  intro s t hs hne hc
  cases step_stepNext s t hs with
  | idle hidle => exact absurd hidle hne
  | faulted => simp at hc
  | ran r rest i t hcmd ho hd hx =>
    obtain ⟨b, ⟨hp, rfl⟩ | ⟨hp, rfl⟩⟩ := execNext_rxError hx hc
    · obtain ⟨-, hn, ha⟩ := (phase_header_iff s).1 hp
      have hquiet := sinkEvents_finishRecv_rxError b (beginRecv (takeCommand s)) rfl rfl
      simp [hquiet, stickyOf, hn, ha]
    · obtain ⟨-, hn, -⟩ := (phase_bodyLast_iff s).1 hp
      have hquiet := sinkEvents_finishRecv_rxError b (clearPacket (storeByte b (beginRecv (takeCommand s)))) rfl rfl
      simp [hquiet, stickyOf, hn]

end Sys2Proof.Machine
end

section
/-! PROOFS. The Packet Dispatcher and the Metadata Parser (45_dispatcher_metadata.md R160 to R173): what the last byte
of a validated packet makes of the block, for each of the dispatcher's routes and either answer of the sink, and the
grammar of well-formed metadata. -/

namespace Sys2Proof.Machine

/-! ### The route of a validated packet -/

theorem State.CompletesValid.validated {s : State} {b : Byte} {payload : List Byte} (h : s.CompletesValid b payload) :
    Validated (storeByte b (beginCommand s)) :=
  (validated_storeByte_iff (beginCommand s) b h.ready.inv.buffers.pbuf h.ready.last).2
    ⟨h.complement, h.noEot, h.sequence, h.payloadIs ▸ h.checksum⟩

/-- The last byte of a packet stands behind the payload, so it leaves the payload alone. -/
theorem State.CompletesValid.payloadOf_storeByte {s : State} {b : Byte} {payload : List Byte}
    (h : s.CompletesValid b payload) : payloadOf (storeByte b (beginCommand s)).pbuf s.psize.toNat = payload :=
  (slice_write_beyond s.pbuf 3 s.psize.toNat s.cnt.toNat b (by have := h.ready.last; omega)).trans h.payloadIs.symm

/-- 45_dispatcher_metadata.md R160: a validated packet numbered 0 goes to the Metadata Parser. -/
theorem completePacket_of_firstPacket {s : State} {b : Byte} {payload : List Byte} (h : s.CompletesValid b payload)
    (hseq : s.expSeq = 0x00#8) :
    completePacket (storeByte b (beginCommand s)) = metaPacket payload (storeByte b (beginCommand s)) := by
  rw [completePacket_of_validated _ h.validated, dispatch, if_pos (h.validated.sequence.trans hseq)]
  exact congrArg (metaPacket · _) h.payloadOf_storeByte

/-- 45_dispatcher_metadata.md R160: every other validated packet is delivered. -/
theorem completePacket_of_dataPacket {s : State} {b : Byte} {payload : List Byte} (h : s.CompletesValid b payload)
    (hseq : s.expSeq ≠ 0x00#8) :
    completePacket (storeByte b (beginCommand s)) = dataDeliver payload (storeByte b (beginCommand s)) := by
  rw [completePacket_of_validated _ h.validated, dispatch,
    if_neg fun h0 => hseq (h.validated.sequence.symm.trans h0)]
  exact congrArg (dataDeliver · _) h.payloadOf_storeByte

/-! ### The Metadata Parser's outcomes -/

/-- R162 reads payload byte 0, which every packet has: the packet lengths are 128 and 1024. -/
theorem State.CompletesValid.payload_ne_nil {s : State} {b : Byte} {payload : List Byte}
    (h : s.CompletesValid b payload) : payload ≠ [] := by
  obtain ⟨hlegal, -⟩ := (h.ready.inv.framer h.ready.accumulating.initDone).assembling h.ready.accumulating.accumulating
  have hlen : payload.length = s.psize.toNat := by rw [h.payloadIs, slice_length]
  rintro rfl
  obtain hp | hp := (legalLength_iff s.psize).1 hlegal <;> simp [hp] at hlen

theorem State.CompletesValid.headD_ne_nul {s : State} {b : Byte} {payload : List Byte}
    (h : s.CompletesValid b payload) (hhead : payload.head? ≠ some 0x00#8) : payload.headD 0x00#8 ≠ Config.nul := by
  cases payload with
  | nil => exact absurd rfl h.payload_ne_nil
  | cons c rest => exact fun hc => hhead (congrArg some hc)

theorem metaPacket_of_batchEnd {p : List Byte} (s : State) (h : p.head? = some 0x00#8) :
    metaPacket p s = (.abort, s) := by
  rw [metaPacket, List.headD_eq_head?_getD, h]
  exact if_pos rfl

theorem metaPacket_of_malformed {p : List Byte} {s : State} (h0 : p.headD 0x00#8 ≠ Config.nul)
    (hp : parseMetadata s.params.fileNameMax.1 p = none) : metaPacket p s = (.sizeErr, s) := by
  rw [metaPacket, if_neg h0, hp]

theorem metaPacket_of_wellFormed {p : List Byte} {s : State} {d : Metadata} (h0 : p.headD 0x00#8 ≠ Config.nul)
    (hp : parseMetadata s.params.fileNameMax.1 p = some d) : metaPacket p s = announce d (storeMetadata d s) := by
  rw [metaPacket, if_neg h0, hp]

/-- 45_dispatcher_metadata.md R163 to R168: a validated first packet with well-formed metadata stores and announces
them. -/
theorem completePacket_of_wellFormed {s : State} {b : Byte} {payload : List Byte} {d : Metadata}
    (h : s.CompletesValid b payload) (hseq : s.expSeq = 0x00#8) (hhead : payload.head? ≠ some 0x00#8)
    (hp : parseMetadata s.params.fileNameMax.1 payload = some d) :
    completePacket (storeByte b (beginCommand s)) = announce d (storeMetadata d (storeByte b (beginCommand s))) :=
  (completePacket_of_firstPacket h hseq).trans (metaPacket_of_wellFormed (h.headD_ne_nul hhead) hp)

theorem announce_of_accepted (d : Metadata) {s : State} (ha : sinkAnswer s = true) :
    announce d s = (.startRx, setExpSeq 0x01#8 (dropAnswer (notify (.name d.name d.size) s))) :=
  if_pos ha

theorem announce_of_rejected (d : Metadata) {s : State} (ha : sinkAnswer s = false) :
    announce d s = (.sizeErr, dropAnswer (notify (.name d.name d.size) s)) :=
  if_neg (Bool.eq_false_iff.1 ha)

/-! ### The stored metadata -/

/-- 45_dispatcher_metadata.md R166: a buffer filled with x reads as x and behind it as 0x00. -/
theorem read_writeAll_fillBytes (cap : Nat) (x : List Byte) (m : Memory) (h : m.wf cap = true) (j : Nat)
    (hj : j < cap) : (m.writeAll 0 (fillBytes cap x)).read j = x.getD j 0x00#8 := by
  have hread := read_writeAll cap (fillBytes cap x) m 0 j (by simpa using hj) (by simp) h
  rw [Nat.zero_add] at hread
  rw [hread]
  simp [fillBytes, hj]

/-! ### The last byte of a validated packet -/

/-- Settles O33: the batch-end marker is answered ABORT before anything else of the payload is read. -/
theorem batchEndMarkerAborts : Obligations.BatchEndMarkerAborts := by
  unfold Obligations.BatchEndMarkerAborts
  intro s b payload h hseq hhead
  have hu := (completePacket_of_firstPacket h hseq).trans (metaPacket_of_batchEnd _ hhead)
  exact ⟨_, bodyLast_next h.ready hu, read_writeAll_reply .abort s.obuf⟩

/-- Settles O34: malformed metadata are answered SIZE_ERR on the block as it was. -/
theorem malformedMetadataIsSizeError : Obligations.MalformedMetadataIsSizeError := by
  unfold Obligations.MalformedMetadataIsSizeError
  intro s b payload h hseq hhead hp
  have hu := (completePacket_of_firstPacket h hseq).trans (metaPacket_of_malformed (h.headD_ne_nul hhead) hp)
  exact ⟨_, bodyLast_next h.ready hu, read_writeAll_reply .sizeErr s.obuf⟩

/-- Settles O35: the metadata are stored before the sink is asked, and its acceptance sets `EXP_SEQ`. -/
theorem acceptedMetadataStartTransfer : Obligations.AcceptedMetadataStartTransfer := by
  unfold Obligations.AcceptedMetadataStartTransfer
  intro s b payload d h hseq hhead hp ha
  have hu := (completePacket_of_wellFormed h hseq hhead hp).trans (announce_of_accepted d ha)
  obtain ⟨-, hfname, htxt, -⟩ := h.ready.inv.buffers
  refine ⟨_, bodyLast_next h.ready hu, rfl, by simp, by simp [stickyOf, h.ready.accumulating.nominal], by simp,
    by simp, ?_, ?_⟩
  · simpa using read_writeAll_fillBytes _ d.name _ hfname
  · simpa [Config.decMaxDigits] using read_writeAll_fillBytes _ d.sizeText _ htxt

/-- Settles O36: the metadata are stored before the sink is asked, and its rejection leaves them and `EXP_SEQ`. -/
theorem rejectedMetadataIsSizeError : Obligations.RejectedMetadataIsSizeError := by
  unfold Obligations.RejectedMetadataIsSizeError
  intro s b payload d h hseq hhead hp ha
  have hu := (completePacket_of_wellFormed h hseq hhead hp).trans (announce_of_rejected d ha)
  refine ⟨_, bodyLast_next h.ready hu, rfl, by simpa using hseq, rfl, by simp, by simp, ?_⟩
  simpa using read_writeAll_fillBytes _ d.name _ h.ready.inv.buffers.fname

/-- Settles O37: the payload is delivered whole, and the answer decides between the two outcomes. -/
theorem dataPacketIsDelivered : Obligations.DataPacketIsDelivered := by
  unfold Obligations.DataPacketIsDelivered
  intro s b payload h hseq
  have hu := completePacket_of_dataPacket h hseq
  obtain ⟨ha, hd⟩ | ⟨ha, hd⟩ := dataDeliver_cases payload (storeByte b (beginCommand s))
  · exact ⟨_, bodyLast_next h.ready (hu.trans hd), by simp, by simp, by simp, by simp,
      fun _ => ⟨rfl, by simp [BitVec.toNat_add], by simp [stickyOf, h.ready.accumulating.nominal]⟩,
      fun hf => absurd (ha.symm.trans hf) (by decide)⟩
  · exact ⟨_, bodyLast_next h.ready (hu.trans hd), by simp, by simp, by simp, by simp,
      fun hf => absurd (ha.symm.trans hf) (by decide), fun _ => ⟨rfl, by simp, rfl⟩⟩

/-! ### The grammar of the metadata -/

/-- The scans of R163 and R164 look for the first of a byte: what stands before it does not hold it. -/
theorem findIdx?_beq_eq_some_iff (x : Byte) (p : List Byte) (k : Nat) :
    p.findIdx? (· == x) = some k ↔ ∃ pre post, p = pre ++ x :: post ∧ x ∉ pre ∧ pre.length = k := by
  constructor
  · intro h
    obtain ⟨hk, hx, hbefore⟩ := List.findIdx?_eq_some_iff_getElem.1 h
    refine ⟨p.take k, p.drop (k + 1), ?_, ?_, List.length_take_of_le hk.le⟩
    · rw [← beq_iff_eq.1 hx, List.getElem_cons_drop, List.take_append_drop]
    · intro hmem
      obtain ⟨j, hj, hjx⟩ := List.mem_take_iff_getElem.1 hmem
      exact hbefore j (by omega) (beq_iff_eq.2 hjx)
  · rintro ⟨pre, post, rfl, hx, rfl⟩
    have hpre : pre.findIdx? (· == x) = none :=
      List.findIdx?_eq_none_iff.2 fun c hc => beq_false_of_ne fun hcx => hx (hcx ▸ hc)
    rw [List.findIdx?_append, hpre]
    simp [List.findIdx?_cons]

/-- 45_dispatcher_metadata.md R163: the name ends at the first 0x00, which must come within `FILE_NAME_MAX` bytes. -/
theorem scanName_eq_some_iff (fileNameMax n : Nat) (p : List Byte) :
    scanName fileNameMax p = some n ↔
      ∃ name rest, p = name ++ 0x00#8 :: rest ∧ 0x00#8 ∉ name ∧ name.length = n ∧ n < fileNameMax := by
  have hbound : scanName fileNameMax p = some n ↔ p.findIdx? (· == Config.nul) = some n ∧ n < fileNameMax := by
    rw [scanName, List.findIdx?_take]
    simp [Option.bind_eq_some_iff, Option.guard_eq_some_iff]
  rw [hbound, findIdx?_beq_eq_some_iff]
  constructor
  · rintro ⟨⟨name, rest, hp, hnul, hlen⟩, hlt⟩
    exact ⟨name, rest, hp, hnul, hlen, hlt⟩
  · rintro ⟨name, rest, hp, hnul, hlen, hlt⟩
    exact ⟨⟨name, rest, hp, hnul, hlen⟩, hlt⟩

/-- 45_dispatcher_metadata.md R164: the size text ends at the first 0x20 behind the name. -/
theorem scanSizeText_eq_some_iff (s : Nat) (p text : List Byte) :
    scanSizeText s p = some text ↔ ∃ padding, p.drop s = text ++ 0x20#8 :: padding ∧ 0x20#8 ∉ text := by
  rw [scanSizeText, Option.map_eq_some_iff]
  constructor
  · rintro ⟨k, hk, rfl⟩
    obtain ⟨pre, post, hp, hx, hlen⟩ := (findIdx?_beq_eq_some_iff _ _ _).1 hk
    rw [hp, List.take_left' hlen]
    exact ⟨post, rfl, hx⟩
  · rintro ⟨padding, hp, hx⟩
    exact ⟨text.length, (findIdx?_beq_eq_some_iff _ _ _).2 ⟨text, padding, hp, hx, rfl⟩, by rw [hp, List.take_left]⟩

/-- 45_dispatcher_metadata.md R165, with the Decimal Parser's two cases as one equivalence. -/
theorem decParse_eq_some_iff (t : List Byte) (v : FileSize) :
    decParse t = some v ↔
      t.length ≤ 10 ∧ (∀ c ∈ t, 0x30 ≤ c.toNat ∧ c.toNat ≤ 0x39) ∧ v = BitVec.ofNat 32 (decimalValue t) := by
  obtain ⟨haccept, hreject⟩ := decimalParserValue t
  constructor
  · intro h
    by_cases hok : t.length ≤ 10 ∧ ∀ c ∈ t, 0x30 ≤ c.toNat ∧ c.toNat ≤ 0x39
    · exact ⟨hok.1, hok.2, Option.some.inj (h.symm.trans (haccept hok))⟩
    · cases h.symm.trans (hreject hok)
  · rintro ⟨hlen, hdigits, rfl⟩
    exact haccept ⟨hlen, hdigits⟩

/-- 45_dispatcher_metadata.md R163 to R165: the three passes in order. -/
theorem parseMetadata_eq_some_iff (fileNameMax : Nat) (p : List Byte) (d : Metadata) :
    parseMetadata fileNameMax p = some d ↔
      ∃ n, scanName fileNameMax p = some n ∧ d.name = p.take n ∧ scanSizeText (n + 1) p = some d.sizeText ∧
        decParse d.sizeText = some d.size := by
  unfold parseMetadata
  constructor
  · intro h
    split at h
    · cases h
    next n hn =>
      split at h
      · cases h
      next text htext =>
        split at h
        · cases h
        next size hsize =>
          cases h
          exact ⟨n, hn, rfl, htext, hsize⟩
  · rintro ⟨n, hn, hname, htext, hsize⟩
    simp only [hn, htext, hsize, ← hname]

/-- Settles O38: the 0x00 of the name is the first one because the name holds none, and the 0x20 behind the digits is
the first one because no digit is a space. -/
theorem metadataAreNameNulDigitsSpace : Obligations.MetadataAreNameNulDigitsSpace := by
  unfold Obligations.MetadataAreNameNulDigitsSpace
  intro fileNameMax p d
  rw [parseMetadata_eq_some_iff]
  constructor
  · rintro ⟨n, hn, hname, htext, hsize⟩
    obtain ⟨name, rest, rfl, hnul, rfl, hlt⟩ := (scanName_eq_some_iff _ _ _).1 hn
    obtain ⟨padding, hrest, -⟩ := (scanSizeText_eq_some_iff _ _ _).1 htext
    obtain ⟨hlen, hdigits, hvalue⟩ := (decParse_eq_some_iff _ _).1 hsize
    rw [List.take_left] at hname
    rw [List.drop_length_add_append, List.drop_one, List.tail_cons] at hrest
    exact ⟨padding, by simp [hname, hrest], hname ▸ hnul, hname ▸ hlt, hlen, hdigits, hvalue⟩
  · rintro ⟨padding, rfl, hnul, hlt, hlen, hdigits, hvalue⟩
    have hspace : 0x20#8 ∉ d.sizeText := fun hc => absurd (hdigits _ hc).1 (by decide)
    exact ⟨d.name.length, (scanName_eq_some_iff _ _ _).2 ⟨_, d.sizeText ++ 0x20#8 :: padding, by simp, hnul, rfl, hlt⟩,
      by simp, (scanSizeText_eq_some_iff _ _ _).2 ⟨padding, by simp, hspace⟩,
      (decParse_eq_some_iff _ _).2 ⟨hlen, hdigits, hvalue⟩⟩

end Sys2Proof.Machine
end

section
/-! PROOFS. The Response Generator (46_response_generator.md R180 to R182): the end of a processed RECV is the row of
its outcome in the table, which is where a RECV writes `TERM`; and a block whose `TERM` is set repeats its sticky
code. -/

namespace Sys2Proof.Machine

/-! ### A terminated block -/

/-- 47_entry_points.md R204, R205: the row RECV.STICKY of a block with a terminal status. -/
theorem recvSticky_run (s : State) (b : Byte) (h : s.Terminated) :
    exec (.recvSticky b) s = .next (returnStatus (stickyCode s.term) (beginRecv s)) :=
  recvRow_run _ s _ h.noFault h.initDone rfl (by rw [phase_of_terminated s h]; rfl)

/-- A byte fed to a terminated block: the command is taken and the sticky code returned. -/
theorem step_sticky (s : State) (b : Byte) (rest : List Request) (h : s.Terminated)
    (hc : s.commands = bytesCommands [b] ++ rest) :
    step s = .next { s with commands := rest, olen := 0, outs := [.status (stickyCode s.term)] } :=
  (step_recv s b rest _ h.noFault hc (by rw [phase_of_terminated s h]; rfl)).trans
    (recvSticky_run _ b ⟨h.noFault, h.initDone, h.sticky⟩)

/-- Settles O20, by induction on the bytes: the block after each of them is terminated again, with the same `TERM`. -/
theorem terminatedBlockIgnoresEveryByte : Obligations.TerminatedBlockIgnoresEveryByte := by
  unfold Obligations.TerminatedBlockIgnoresEveryByte
  intro bs
  induction bs with
  | nil => exact fun s rest _ _ hne => absurd rfl hne
  | cons b bs ih =>
    intro s rest h hc _
    rw [List.length_cons, runSteps_succ _ _ _ (step_sticky s b (bytesCommands bs ++ rest) h hc)]
    cases bs with
    | nil => rfl
    | cons c cs => exact ih _ rest ⟨h.noFault, h.initDone, h.sticky⟩ rfl (List.cons_ne_nil c cs)

/-! ### What comes to the Response Generator -/

@[simp] theorem completePacket_term (s : State) : (completePacket s).2.term = s.term := by
  obtain ⟨-, h, -⟩ := completePacket_frame s
  exact h

/-- What the framer hands on of the block s: `TERM` is not the framer's to write, nothing has been put into the reply,
and at most the sink has been told something. -/
structure Framed (s u : State) : Prop where
  term : u.term = s.term
  drained : u.olen = 0
  notified : AtMostOneNotified u.outs

/-- The ways a command can end as the Response Generator sees them: the rows that reach the framer are one. -/
inductive CommandEnd (s : State) : Instr → State → Prop
  | faulted (i : Instr) (f : Fault) : CommandEnd s i (takeFault f s)
  | cleared (i : Instr) (t : State) (hi : i = .reset ∨ (i = .init ∧ s.initDone = false)) (ht : t.term = .nominal) :
      CommandEnd s i t
  | laterInit : CommandEnd s .init (returnStatus .ok (beginCommand s))
  | abort (t : State) (ht : t.term = .aborted) : CommandEnd s .abort t
  | sticky (b : Byte) : CommandEnd s (.recvSticky b) (returnStatus (stickyCode s.term) (beginRecv s))
  | processed (i : Instr) (b : Byte) (o : Status) (u : State) (ho : i.op = 0b00#2) (hn : s.term = .nominal)
      (hu : Framed s u) : CommandEnd s i (finishRecv b o u)

theorem execNext_commandEnd {s t : State} {i : Instr} (hx : ExecNext s i t) : CommandEnd s i t := by
  cases hx with
  | uninitialized | outside => exact .faulted _ _
  | firstInit hi => exact .cleared _ _ (.inr ⟨rfl, hi⟩) rfl
  | reset => exact .cleared _ _ (.inl rfl) rfl
  | laterInit => exact .laterInit
  | abort => exact .abort _ rfl
  | sticky b => exact .sticky b
  | soh hp | stx hp | eot hp | firstCan hp | upper hp | lower hp | other _ hp | body _ hp =>
    exact .processed _ _ _ _ rfl (nominal_of_phase s (by simp [hp]) (by simp [hp])) ⟨rfl, rfl, atMostOneNotified_nil⟩
  | secondCan hp =>
    exact .processed _ _ _ _ rfl (nominal_of_phase s (by simp [hp]) (by simp [hp]))
      ⟨rfl, rfl, atMostOneNotified_notify _⟩
  | bodyLast b hp =>
    exact .processed _ _ _ _ rfl (nominal_of_phase s (by simp [hp]) (by simp [hp]))
      ⟨completePacket_term _, completePacket_olen _, completePacket_atMostOneNotified _ rfl⟩

/-! ### The table -/

/-- A processed RECV returns one code, its outcome. -/
theorem statusCodes_finishRecv (b : Byte) (o : Status) {s u : State} (hu : Framed s u) :
    statusCodes (finishRecv b o u).outs = [o] := by
  obtain ⟨evs, hevs, -⟩ := hu.notified
  rw [finishRecv_outs b o u hu.drained, hevs, transmitted]
  split <;> simp [statusCodes, List.filterMap_map]

/-- A processed RECV writes the reply of its outcome to the transport, in one write, unless it is empty. -/
theorem transportWrites_finishRecv (b : Byte) (o : Status) {s u : State} (hu : Framed s u) :
    transportWrites (finishRecv b o u).outs = if replyOf o = [] then [] else [replyOf o] := by
  obtain ⟨evs, hevs, -⟩ := hu.notified
  rw [finishRecv_outs b o u hu.drained, hevs, transmitted]
  split <;> simp [transportWrites, List.filterMap_map]

/-- Settles O53: such a row ends as a processed RECV, whose write and `TERM` are functions of the outcome. -/
theorem responseTable : Obligations.ResponseTable := by
  unfold Obligations.ResponseTable
  intro s t i _ _ hop hsticky ht hm
  rw [opField_encode] at hop
  cases execNext_commandEnd (exec_next s t i ht).2 with
  | faulted => cases hm
  | cleared _ _ hi => obtain rfl | ⟨rfl, -⟩ := hi <;> cases hop
  | laterInit | abort => cases hop
  | sticky b => exact absurd rfl (hsticky b)
  | processed _ b o u _ _ hu =>
    refine ⟨o, statusCodes_finishRecv b o hu, ?_⟩
    rw [transportWrites_finishRecv b o hu, finishRecv_term, hu.term]
    cases o <;> simp [Status.code, replyOf, stickyOf, Term.code, Config.nak, Config.ack, Config.can, Config.crcReq]

/-! ### `TERM` -/

/-- The outcomes that set a terminal status, with the status each sets (46_response_generator.md R180). -/
theorem stickyOf_eq_some_iff (o : Status) (tm : Term) :
    stickyOf o = some tm ↔
      (tm = .complete ∧ o = .success) ∨ (tm = .writeError ∧ o = .writeErr) ∨ (tm = .sizeError ∧ o = .sizeErr) ∨
        (tm = .aborted ∧ o = .abort) ∨ (tm = .aborted ∧ o = .aborted) := by
  cases o <;> simp [stickyOf, eq_comm]

/-- 46_response_generator.md R181: a RECV writes `TERM` only with the terminal status of the outcome it returns. -/
theorem finishRecv_term_cases (b : Byte) (o : Status) (s : State) :
    (finishRecv b o s).term = s.term ∨ stickyOf o = some (finishRecv b o s).term := by
  rw [finishRecv_term]
  cases stickyOf o with
  | none => exact .inl rfl
  | some tm => exact .inr rfl

/-- 46_response_generator.md R181: what a command makes of `TERM`. -/
theorem execNext_term {s t : State} {i : Instr} (hx : ExecNext s i t) :
    t.term = s.term ∨ (t.term = .aborted ∧ i = .abort) ∨
      (t.term = .nominal ∧ (i = .reset ∨ (i = .init ∧ s.initDone = false))) ∨
      (s.term = .nominal ∧ i.op = 0b00#2 ∧ ∃ o, stickyOf o = some t.term ∧ PortEvent.status o ∈ t.outs) := by
  cases execNext_commandEnd hx with
  | faulted | laterInit | sticky => exact .inl rfl
  | cleared _ _ hi ht => exact .inr (.inr (.inl ⟨ht, hi⟩))
  | abort _ ht => exact .inr (.inl ⟨ht, rfl⟩)
  | processed _ b o u ho hn hu =>
    obtain h | h := finishRecv_term_cases b o u
    · exact .inl (h.trans hu.term)
    · exact .inr (.inr (.inr ⟨hn, ho, o, h, status_mem_finishRecv_outs b o u⟩))

/-- Settles O50: the commands that write `TERM`, named by their words. -/
theorem onlyTheseWriteTerm : Obligations.OnlyTheseWriteTerm := by
  unfold Obligations.OnlyTheseWriteTerm
  intro s t hs hne
  cases step_stepNext s t hs with
  | idle => exact absurd rfl hne
  | faulted => exact absurd rfl hne
  | ran r rest i t hc _ hd hx =>
    have hw : encode i = r.word := encode_of_decode _ _ _ hd
    obtain ⟨hop, -⟩ := decode_fields _ _ _ hd
    refine ⟨r, rest, hc, ?_⟩
    obtain h | ⟨ht, rfl⟩ | ⟨ht, rfl | ⟨rfl, hi⟩⟩ | ⟨hn, ho, o, hset, hmem⟩ := execNext_term hx
    · exact absurd h hne
    · exact .inl ⟨ht, hw.symm⟩
    · exact .inr (.inl ⟨ht, .inl hw.symm⟩)
    · exact .inr (.inl ⟨ht, .inr ⟨hw.symm, hi⟩⟩)
    · refine .inr (.inr ⟨hn, hop.symm.trans ho, ?_⟩)
      obtain ⟨ht, rfl⟩ | ⟨ht, rfl⟩ | ⟨ht, rfl⟩ | ⟨ht, rfl⟩ | ⟨ht, rfl⟩ := (stickyOf_eq_some_iff o t.term).1 hset <;>
        simp [ht, hmem]

end Sys2Proof.Machine
end

section
/-! PROOFS. The entry points (47_entry_points.md R200 to R211): INIT, RESET and ABORT, each with the one state it answers
in a block its guards let through, and a RECV in a terminal status. -/

namespace Sys2Proof.Machine

/-! ### A RECV in a terminal status -/

/-- Settles O19: the row RECV.STICKY returns `stickyCode`, whose four values the codes are read from. -/
theorem stickyRecvReturnsItsCode : Obligations.StickyRecvReturnsItsCode := by
  unfold Obligations.StickyRecvReturnsItsCode
  intro s b h
  refine ⟨stickyCode s.term, recvSticky_run s b h, ?_, ?_, ?_, ?_⟩ <;>
    exact fun ht => congrArg (fun tm => (stickyCode tm).code) ht

/-! ### ABORT -/

theorem abort_run (s : State) (hm : s.faultMark = none) (hi : s.initDone = true) :
    exec .abort s = .next (returnStatus .aborted
      (endCommand (setTerm .aborted (emit [Config.can, Config.can] (emptyReply (beginCommand s)))))) :=
  (unlessFaulted_run s _ hm).trans (whenInitialized_run s _ hi)

/-- What ABORT leaves as one update of the state (47_entry_points.md R203, R210). -/
theorem abortReply_eq (s : State) :
    returnStatus .aborted
      (endCommand (setTerm .aborted (emit [Config.can, Config.can] (emptyReply (beginCommand s))))) = { s with
        term := .aborted
        obuf := s.obuf.writeAll 0 [Config.can, Config.can]
        olen := 0
        outs := [.transmit [Config.can, Config.can], .status .aborted] } := by
  apply State.ext
  case outs =>
    exact congrArg (· ++ [PortEvent.status .aborted]) (abortReply_outs (emptyReply (beginCommand s)) rfl)
  all_goals rfl

/-- Single bytes of `slice_writeAll_of_ne`: no canonical form is needed to read back bytes other than 0x00. -/
theorem read_writeAll_of_ne (bs : List Byte) (m : Memory) (i k : Nat) (h : ∀ b ∈ bs, b ≠ 0x00#8)
    (hk : k < bs.length) : (m.writeAll i bs).read (i + k) = bs[k] := by
  rw [← slice_getElem _ i bs.length k (by rwa [slice_length])]
  simp only [slice_writeAll_of_ne bs m i h]

/-- Settles O18: ABORT writes CAN CAN over the first two bytes of `OBUF` and never looks at `TERM`. -/
theorem abortForcesAborted : Obligations.AbortForcesAborted := by
  unfold Obligations.AbortForcesAborted
  intro s hm hi
  have hne : ∀ b ∈ [Config.can, Config.can], b ≠ 0x00#8 := by decide
  exact ⟨_, (abort_run s hm hi).trans (congrArg Host.Outcome.next (abortReply_eq s)),
    fun j hj => read_writeAll_outside _ s.obuf 0 j (.inr hj),
    read_writeAll_of_ne _ s.obuf 0 0 hne (by decide), read_writeAll_of_ne _ s.obuf 0 1 hne (by decide)⟩

/-! ### INIT and RESET -/

theorem firstInit_run (s : State) (h : s.AtPowerOn) :
    exec .init s = .next (returnStatus .ok { clear (beginCommand s) with initDone := true }) := by
  obtain ⟨hi, hm⟩ := h
  refine (unlessFaulted_run s _ hm).trans ?_
  rw [hi, if_neg Bool.false_ne_true]

theorem laterInit_run (s : State) (hm : s.faultMark = none) (hi : s.initDone = true) :
    exec .init s = .next (returnStatus .ok (beginCommand s)) := by
  refine (unlessFaulted_run s _ hm).trans ?_
  rw [if_pos hi]

theorem reset_run (s : State) (hm : s.faultMark = none) (hi : s.initDone = true) :
    exec .reset s = .next (returnStatus .ok (clear (beginCommand s))) :=
  (unlessFaulted_run s _ hm).trans (whenInitialized_run s _ hi)

/-- Settles O14: CLEAR writes each of the fields to its literal, and `INIT_DONE` is set with it. -/
theorem firstInitClears : Obligations.FirstInitClears := by
  unfold Obligations.FirstInitClears
  exact firstInit_run

/-- Settles O15: a later INIT only begins the command and returns its status. -/
theorem laterInitChangesNothing : Obligations.LaterInitChangesNothing := by
  unfold Obligations.LaterInitChangesNothing
  exact laterInit_run

/-- Settles O16: RESET is CLEAR with the status OK. -/
theorem resetClears : Obligations.ResetClears := by
  unfold Obligations.ResetClears
  exact reset_run

/-- CLEAR gives every register and byte of 10_state.md R35's column but `INIT_DONE`, which the first INIT sets and RESET
finds set. -/
theorem clear_fresh (s : State) (d : Bool) (os : List PortEvent) (hd : d = true) :
    State.Fresh { clear s with initDone := d, outs := os } :=
  ⟨hd, rfl, rfl, rfl, rfl, rfl, rfl, rfl, rfl, read_empty, read_empty, read_empty, rfl⟩

/-- Settles O17: either command leaves what CLEAR leaves, in an initialized block. -/
theorem clearedBlockIsFresh : Obligations.ClearedBlockIsFresh := by
  unfold Obligations.ClearedBlockIsFresh
  intro s t i hi hm ht
  obtain ⟨rfl, h⟩ | ⟨rfl, h⟩ := hi
  · cases (firstInit_run s ⟨h, hm⟩).symm.trans ht
    exact ⟨clear_fresh s true _ rfl, hm, rfl⟩
  · cases (reset_run s hm h).symm.trans ht
    exact ⟨clear_fresh s s.initDone _ h, hm, rfl⟩

end Sys2Proof.Machine
end

section
/-! PROOFS. The model faults and the idle block (60_exceptions.md R226 to R241): what is recorded when a command may not
be given, that a recorded fault is never left, and that a host which keeps its duties (R238) meets none. -/

namespace Sys2Proof.Machine

/-! ### A recorded fault -/

theorem unlessFaulted_marked (s : State) (k : Result) (f : Fault) (h : s.faultMark = some f) :
    unlessFaulted s k = .fault f := by
  simp only [unlessFaulted, h]

/-- 60_exceptions.md R231: the mark guards every arm of `exec`. -/
theorem exec_of_marked (i : Instr) (s : State) (f : Fault) (h : s.faultMark = some f) : exec i s = .fault f := by
  cases i <;> exact unlessFaulted_marked s _ f h

/-- Settles O8: the mark is the first thing looked at, by the step and by every instruction. -/
theorem faultMarkIsForGood : Obligations.FaultMarkIsForGood := by
  unfold Obligations.FaultMarkIsForGood
  intro s f h
  refine ⟨?_, fun i => exec_of_marked i s f h⟩
  simp only [step, h]

/-! ### A command that faults -/

/-- A step whose command is not fetched records the fault and changes nothing else. -/
theorem step_faulted (s : State) (r : Request) (rest : List Request) (f : Fault) (hm : s.faultMark = none)
    (hc : s.commands = r :: rest) (hf : fetch r s = .error f) :
    step s = .next { s with commands := rest, faultMark := some f, outs := [] } := by
  rw [step_of_fetch_error s r rest f hm hc hf, takeCommand_eq s r rest hc]
  rfl

theorem fetch_of_overlaps (r : Request) (s : State) (h : r.overlaps = true) : fetch r s = .error .reentrant :=
  if_pos h

theorem fetch_of_decode_error (r : Request) (s : State) (e : DecodeError) (ho : r.overlaps = false)
    (hd : decode s.phase r.word = .error e) : fetch r s = .error (faultOf e) := by
  simp [fetch, ho, hd]

/-- Settles O10: an overlapping command is not decoded, so its word plays no part. -/
theorem overlappingCommandFaults : Obligations.OverlappingCommandFaults := by
  unfold Obligations.OverlappingCommandFaults
  intro s r rest hm hc ho
  exact step_faulted s r rest .reentrant hm hc (fetch_of_overlaps r s ho)

/-! ### A command before INIT -/

/-- 60_exceptions.md R227: every arm of `exec` but INIT's asks for `INIT_DONE` first. -/
theorem exec_eq_whenInitialized (i : Instr) (s : State) (h : i ≠ .init) :
    ∃ k, exec i s = unlessFaulted s (whenInitialized s k) := by
  cases i with
  | init => exact absurd rfl h
  | _ => exact ⟨_, rfl⟩

theorem exec_of_atPowerOn (i : Instr) (s : State) (h : s.AtPowerOn) (hne : i ≠ .init) :
    exec i s = .next (takeFault .notInitialized s) := by
  obtain ⟨hi, hm⟩ := h
  obtain ⟨k, hk⟩ := exec_eq_whenInitialized i s hne
  rw [hk, unlessFaulted_run s _ hm, whenInitialized_not s k hi]

/-- 30_encoding.md R73, first test: a RECV of any byte is not decoded before INIT. -/
theorem fetch_recv_of_atPowerOn (s : State) (w : CmdWord) (h : s.AtPowerOn) (ho : opField w = 0b00#2) :
    fetch (request w) s = .error .notInitialized := by
  have hd : decode s.phase w = .error .notInitialized := by
    rw [decode_of_recv _ w ho, (phase_uninitialized_iff s).2 h.1]
    rfl
  exact fetch_of_decode_error (request w) s _ rfl hd

/-- A command other than INIT that does decode before INIT records the fault when it is executed. -/
theorem step_decoded_of_atPowerOn (s : State) (w : CmdWord) (rest : List Request) (i : Instr) (h : s.AtPowerOn)
    (hc : s.commands = request w :: rest) (hd : decode s.phase w = .ok i) (hne : i ≠ .init) :
    step s = .next { s with commands := rest, faultMark := some .notInitialized, outs := [] } := by
  rw [stepRunsDecodedInstruction s _ rest i h.2 hc rfl hd]
  exact exec_of_atPowerOn i { s with commands := rest } h hne

/-- Settles O9: a RECV faults where it is decoded, RESET and ABORT where they are executed. -/
theorem commandBeforeInitFaults : Obligations.CommandBeforeInitFaults := by
  unfold Obligations.CommandBeforeInitFaults
  intro s h
  refine ⟨fun i hne => exec_of_atPowerOn i s h hne, fun w rest hc hw => ?_⟩
  obtain ho | rfl | rfl := hw
  · exact step_faulted s _ rest _ h.2 hc (fetch_recv_of_atPowerOn s w h ho)
  · exact step_decoded_of_atPowerOn s _ rest .reset h hc (decode_resetWord s.phase) nofun
  · exact step_decoded_of_atPowerOn s _ rest .abort h hc (decode_abortWord s.phase) nofun

/-! ### No command -/

theorem step_idle (s : State) (hm : s.faultMark = none) (hc : s.commands = []) : step s = .next s := by
  simp only [step, hm, hc]

/-- Settles O7: without a mark and without a command there is nothing to do. -/
theorem idleBlockHoldsItsState : Obligations.IdleBlockHoldsItsState := by
  unfold Obligations.IdleBlockHoldsItsState
  exact step_idle

/-! ### A host that keeps its duties -/

theorem proper_iff (r : Request) :
    r.proper = true ↔ r.overlaps = false ∧ (opField r.word = 0b00#2 ∨ dataField r.word = 0x00#8) := by
  simp [Request.proper]

/-- 30_encoding.md R71, R72: INIT, RESET and ABORT decode with a zero data field, in every phase. -/
theorem decode_of_zeroData (ph : Phase) (w : CmdWord) (ho : opField w ≠ 0b00#2) (hd : dataField w = 0x00#8) :
    ∃ i, decode ph w = .ok i := by
  rw [decode, if_neg ho, if_neg (not_not.2 hd)]
  split_ifs <;> exact ⟨_, rfl⟩

/-- 60_exceptions.md R238: an initialized block decodes every command such a host issues. -/
theorem decode_of_proper (s : State) (r : Request) (hi : s.initDone = true) (hp : r.proper = true) :
    ∃ i, decode s.phase r.word = .ok i := by
  obtain ⟨-, hw⟩ := (proper_iff r).1 hp
  by_cases ho : opField r.word = 0b00#2
  · cases hd : decode s.phase r.word with
    | ok i => exact ⟨i, rfl⟩
    | error e =>
      exact absurd (fetch_of_decode_error (request r.word) s e rfl hd) (fetch_recv_ne_error s r.word _ hi ho)
  · exact decode_of_zeroData s.phase r.word ho (hw.resolve_left ho)

/-- An unmarked, initialized block that meets the invariant executes every row its phase selects. -/
theorem exec_of_selected (s : State) (i : Instr) (hm : s.faultMark = none) (hi : s.initDone = true) (h : s.Inv)
    (hw : i.wf = true) (hs : i.selectedIn s.phase = true) : ∃ t, exec i s = .next t := by
  cases i with
  | init => exact ⟨_, laterInit_run s hm hi⟩
  | reset => exact ⟨_, reset_run s hm hi⟩
  | abort => exact ⟨_, abort_run s hm hi⟩
  | recvBody b =>
    have hc := cnt_lt_pbufCap_of_phase s hm h (.inl (beq_iff_eq.1 hs))
    exact ⟨_, (recvRow_run _ s _ hm hi hw hs).trans (withinPacketBuffer_run s _ hc)⟩
  | recvBodyLast b =>
    have hc := cnt_lt_pbufCap_of_phase s hm h (.inr (beq_iff_eq.1 hs))
    exact ⟨_, (recvRow_run _ s _ hm hi hw hs).trans (withinPacketBuffer_run s _ hc)⟩
  | _ => exact ⟨_, recvRow_run _ s _ hm hi hw hs⟩

@[simp] theorem completePacket_faultMark (s : State) : (completePacket s).2.faultMark = s.faultMark := by
  obtain ⟨-, -, -, -, -, -, h, -⟩ := completePacket_frame s
  exact h

@[simp] theorem completePacket_commands (s : State) : (completePacket s).2.commands = s.commands := by
  obtain ⟨-, -, -, -, -, -, -, -, h⟩ := completePacket_frame s
  exact h

/-- No command looks at the commands behind it. -/
theorem execNext_commands (s t : State) (i : Instr) (hx : ExecNext s i t) : t.commands = s.commands := by
  cases hx <;> simp

/-- An initialized block that meets the invariant records no fault: `CNT` is within `PBUF`. -/
theorem execNext_faultMark (s t : State) (i : Instr) (hm : s.faultMark = none) (hi : s.initDone = true) (h : s.Inv)
    (hx : ExecNext s i t) : t.faultMark = none := by
  cases hx with
  | uninitialized _ _ h0 => exact absurd (hi.symm.trans h0) (by decide)
  | outside _ hc hp => exact absurd (cnt_lt_pbufCap_of_phase s hm h (hp.imp And.left And.left)) hc
  | _ => simpa using hm

/-- Settles O46: the next command decodes, its row is one the phase selects, and executing it records no fault. -/
theorem properHostNeverFaults : Obligations.ProperHostNeverFaults := by
  unfold Obligations.ProperHostNeverFaults
  intro s h hm hi hproper
  cases hc : s.commands with
  | nil => exact ⟨s, step_idle s hm hc, hm, hi, hc, h⟩
  | cons r rest =>
    have hp := hproper r (hc ▸ List.mem_cons_self)
    obtain ⟨ho, -⟩ := (proper_iff r).1 hp
    obtain ⟨i, hd⟩ := decode_of_proper s r hi hp
    obtain ⟨hw, hs⟩ := decode_selected s.phase r.word i hd
    have hinv := takeCommand_inv s h
    obtain ⟨t, ht⟩ := exec_of_selected (takeCommand s) i hm hi hinv hw hs
    obtain ⟨-, hx⟩ := exec_next (takeCommand s) t i ht
    have hstep := (step_of_fetch s r rest i hm hc (fetch_of_decode r s i ho hd)).trans ht
    exact ⟨t, hstep, execNext_faultMark (takeCommand s) t i hm hi hinv hx,
      (execNext_initDone_iff _ t i hx).2 (.inl hi), (execNext_commands _ t i hx).trans (congrArg List.tail hc),
      execNext_inv _ t i hinv hx⟩

end Sys2Proof.Machine
end
